-- ==== Sys2Proof/Word.lean ====
section
/-! DEFINITION. The words of the TG416: bytes on the wire, house time, levels of a step. -/

namespace Sys2Proof

/-- One byte of a frame. -/
abbrev Byte := BitVec 8

/-- House time: microseconds since power-on reset, 64 bits, modulo 2^64 (R1). -/
abbrev Time := BitVec 64

/-- The next reference time N of the generator, in grains, 80 bits, modulo 2^80 (R2). -/
abbrev GrainTime := BitVec 80

/-- The level of one step cell: 0 off, 1 soft, 2 normal, 3 accent (R120). -/
abbrev Level := BitVec 2

/-- Eight levels, one per plane 0-7. -/
abbrev Levels := Vector Level 8

/-- A pulse number, 0 to 2^32 - 1, wrapping to 0 (R16). -/
abbrev PulseNumber := BitVec 32

/-- A session number, 0 to 2^32 - 1 (R162). -/
abbrev Session := BitVec 32

end Sys2Proof
end

