-- ==== Sys2Proof/Config.lean ====
section
/-! DEFINITION. What is fixed for the part, and the two values the spec leaves free: where in its
20 microsecond window a command is taken (R164), and which of several events of one house time is
taken first (R1, R29, R63, R92, R115, R164). Both are opaque: no proof can see them. -/

namespace Sys2Proof

/-- FREE VALUE (R164): how long after its frame's end the n-th accepted command frame is taken. The
machine uses it modulo 21, so that the delay is 0 to 20 microseconds. Log entry 3. -/
opaque Config.takeDelay : Nat → Nat

/-- FREE VALUE: which of the events that are due at one house time the n-th idle step takes first.
The machine uses it modulo the number of due events. Log entry 4. -/
opaque Config.eventChoice : Nat → Nat

/-- The longest time from a command frame's end to its taking, in µs (R164). -/
def Config.takeWindow : Nat := 20

/-- I_min, the pulse interval at 300.00 BPM, in grains (R3). -/
def Config.intervalMin : Nat := 136533333

/-- I_max, the pulse interval at 20.00 BPM, in grains (R3). -/
def Config.intervalMax : Nat := 2048000000

/-- Tempo values run from 2000 to 30000 (R3). -/
def Config.tempoMin : Nat := 2000

/-- Tempo values run from 2000 to 30000 (R3). -/
def Config.tempoMax : Nat := 30000

/-- The constant 62,500,000 × 65536 of the tempo conversion (R3). -/
def Config.tempoConstant : Nat := 4096000000000

/-- The longest glide, in beats (R12). -/
def Config.glideBeatsMax : Nat := 64

/-- The longest horizon, in ms (R37). -/
def Config.horizonMax : Nat := 250

/-- The latest launch time START takes, in µs after the command (R26). -/
def Config.launchSpan : Nat := 60000000

/-- A record retires when house time exceeds its reference time by more than this, in µs (R50). -/
def Config.retireAfter : Nat := 250000

/-- The offset limits of taps and, upward, of lanes, in µs (R94, R149). -/
def Config.offsetMax : Nat := 250000

/-- The house time at which the pattern memory's clear operation ends (R121). -/
def Config.clearEnd : Nat := 4000

/-- The debounce time of a tap input, in µs (R80). -/
def Config.debounce : Nat := 1000

/-- Capacity of a tap's capture ring (R81). -/
def Config.ringDepth : Nat := 8

/-- Silence deadline of a LEARNING tap, in µs after the edge (R85). -/
def Config.learningSilence : Nat := 2000000

/-- Cue records in the pool (R98). -/
def Config.cuePool : Nat := 128

/-- Records in one port's notice queue (R176). -/
def Config.noticeDepth : Nat := 16

/-- Records READ_NOTICES removes at most (R181). -/
def Config.noticeBatch : Nat := 8

/-- The last bar number (R17). -/
def Config.lastBar : Nat := 65535

/-- The widest lane pulse, in µs (R149). -/
def Config.widthMax : Nat := 100000

/-- The longest handover wait limit, in units of 100 ms (R59). -/
def Config.waitMax : Nat := 600

/-- The longest silence limit, in units of 100 ms (R171). -/
def Config.silenceMax : Nat := 100

end Sys2Proof
end

