-- ==== Sys2Proof/Syntax.lean ====
section
/-! DEFINITION. The commands and events of the TG416: one constructor for each row of
spec/opcode_table.json. A command of a desk port carries its port and its fields as they stand on the
wire (R174), before any range check, so that every value a frame can carry can be written. -/

namespace Sys2Proof

/-- The four desk ports. -/
inductive Port where
  | a | b | c | d
  deriving DecidableEq, Repr

/-- The lane settings record as SET_LANE carries it (section 9.6), every field raw. -/
structure RawLaneSettings where
  mode       : Byte
  divisor    : BitVec 16
  phase      : BitVec 16
  base       : Byte
  clockWidth : BitVec 32
  soft       : BitVec 32
  normal     : BitVec 32
  accent     : BitVec 32
  srcPlayer  : Byte
  srcPlane   : Byte
  offset     : BitVec 32
  polarity   : Byte
  deriving DecidableEq, Repr

/-- A fetch frame (R165): how many bytes are clocked after the fetch code, and whether READY was low when
the frame began (log entry 6). -/
structure Fetch where
  clocked  : Nat
  begunLow : Bool
  deriving DecidableEq, Repr

/-- The fields of SCHEDULE_CUE as the frame carries them (R104, R174): the trigger kind, phrase k and
trigger position, the action and its six argument bytes, the tag and the late policy. -/
structure RawCue where
  trigger   : Byte
  phraseK   : Byte
  bar       : BitVec 16
  beat      : Byte
  pulse     : Byte
  action    : Byte
  arguments : BitVec 48
  tag       : BitVec 16
  policy    : Byte
  deriving DecidableEq, Repr

/-- The commands and events of the TG416. -/
inductive Instr where
  /-- RESET (R1): RST is held low. -/
  | reset
  /-- RESET_RELEASE (R1): RST is released. -/
  | resetRelease
  /-- PATTERN_CLEAR_END (R121): house time reaches 4,000. -/
  | patternClearEnd
  /-- COMMAND_FRAME (R164): a command frame ends on port `p`; its first byte and the bytes after it. -/
  | commandFrame (p : Port) (code : Byte) (rest : List Byte)
  /-- FETCH_FRAME (R165): a frame beginning with 0x80. -/
  | fetchFrame (p : Port) (f : Fetch)
  /-- EMPTY_FRAME (R163): a chip-select low period with no whole byte. -/
  | emptyFrame (p : Port)
  /-- UNKNOWN_COMMAND (R175, R167): a frame that spells no command is taken. -/
  | unknownCommand (p : Port) (code : Byte) (rest : List Byte)
  /-- OPEN (R169). -/
  | openPort (p : Port)
  /-- CLOSE (R170). -/
  | closePort (p : Port)
  /-- SET_PROFILE (R171). -/
  | setProfile (p : Port) (eligible rank silenceLimit attention : Byte)
  /-- READ_PROFILE (R172). -/
  | readProfile (p : Port)
  /-- READ_IDENTITY (R173). -/
  | readIdentity (p : Port)
  /-- SET_TEMPO (R12). -/
  | setTempo (p : Port) (tempo : BitVec 16) (glide : Byte)
  /-- NUDGE (R14). -/
  | nudge (p : Port) (delta : BitVec 32)
  /-- SET_METER (R18). -/
  | setMeter (p : Port) (meter : Byte)
  /-- START (R26, R27). -/
  | start (p : Port) (launch : Time)
  /-- STOP (R30, R31). -/
  | stop (p : Port) (quantize : Byte)
  /-- LOCATE (R35). -/
  | locate (p : Port) (bar : BitVec 16) (beat : Byte)
  /-- GRID_RESET (R36). -/
  | gridReset (p : Port)
  /-- SET_HORIZON (R37). -/
  | setHorizon (p : Port) (ms : Byte)
  /-- READ_POSITION (R38, R39). -/
  | readPosition (p : Port)
  /-- BID (R59). -/
  | bid (p : Port) (kind : Byte) (wait : BitVec 16) (tempo : BitVec 16) (beatRef : Time) (glide : Byte)
  /-- YIELD (R63). -/
  | yieldLead (p : Port)
  /-- REFUSE (R64). -/
  | refuse (p : Port)
  /-- WITHDRAW (R65). -/
  | withdraw (p : Port)
  /-- RELEASE (R66). -/
  | release (p : Port)
  /-- KEEP (R69). -/
  | keep (p : Port)
  /-- HAND_TO_TAP (R71). -/
  | handToTap (p : Port) (tap : Byte)
  /-- READ_LEADERSHIP (R77). -/
  | readLeadership (p : Port)
  /-- WAIT_TIMER_EXPIRY (R68). -/
  | waitTimerExpiry
  /-- SILENCE_TIMER_EXPIRY (R70). -/
  | silenceTimerExpiry
  /-- TAP_EDGE (R80): a rising edge on a tap input at the present house time. -/
  | tapEdge (t : Fin 4)
  /-- TAP_SILENCE_DEADLINE (R86). -/
  | tapSilenceDeadline (t : Fin 4)
  /-- SET_TAP (R94). -/
  | setTap (p : Port) (tap k : Byte) (offset : BitVec 32)
  /-- TAP_CLEAR (R95). -/
  | tapClear (p : Port) (tap : Byte)
  /-- READ_TAP (R96). -/
  | readTap (p : Port) (tap : Byte)
  /-- SET_ALLOCATION (R100). -/
  | setAllocation (p : Port) (n : Byte)
  /-- SCHEDULE_CUE (R104). -/
  | scheduleCue (p : Port) (cue : RawCue)
  /-- CANCEL_CUE (R114). -/
  | cancelCue (p : Port) (id : Byte) (tag : BitVec 16)
  /-- READ_CUES (R119). -/
  | readCues (p : Port) (first : Byte)
  /-- WRITE_STEPS (R125). -/
  | writeSteps (p : Port) (row first count planes : Byte) (levels : List (BitVec 16))
  /-- READ_STEPS (R128). -/
  | readSteps (p : Port) (row first count : Byte)
  /-- LOAD_MASK (R124). -/
  | loadMask (p : Port) (planes : Byte)
  /-- MASK_RESET (R124). -/
  | maskReset (p : Port)
  /-- LOAD_FILL (R124). -/
  | loadFill (p : Port) (levels : BitVec 16)
  /-- BLOCK_FILL (R126). -/
  | blockFill (p : Port) (row step positions planes : Byte)
  /-- ROW_FILL (R127). -/
  | rowFill (p : Port) (row planes : Byte)
  /-- LOAD_ROW (R135). -/
  | loadRow (p : Port) (player row tap : Byte)
  /-- HALF_LOAD (R137). -/
  | halfLoad (p : Port) (player row tap : Byte)
  /-- SET_STEP_LENGTH (R139). -/
  | setStepLength (p : Port) (player length : Byte)
  /-- READ_PLAYER (R141). -/
  | readPlayer (p : Port) (player withRegister : Byte)
  /-- CLAIM_LANES (R143). -/
  | claimLanes (p : Port) (first count : Byte)
  /-- RELEASE_LANES (R143). -/
  | releaseLanes (p : Port) (first count : Byte)
  /-- CLAIM_PLAYER (R144). -/
  | claimPlayer (p : Port) (first count : Byte)
  /-- RELEASE_PLAYER (R144). -/
  | releasePlayer (p : Port) (first count : Byte)
  /-- SET_LANE (R147). -/
  | setLane (p : Port) (lane : Byte) (settings : RawLaneSettings)
  /-- MUTE (R150). -/
  | mute (p : Port) (lanes : BitVec 16)
  /-- UNMUTE (R150). -/
  | unmute (p : Port) (lanes : BitVec 16)
  /-- READ_LANE (R161). -/
  | readLane (p : Port) (lane : Byte)
  /-- SET_NOTICES (R178). -/
  | setNotices (p : Port) (kinds : BitVec 16) (timing : Byte)
  /-- READ_NOTICES (R181). -/
  | readNotices (p : Port)
  /-- LAUNCH_STEP (R28). -/
  | launchStep
  /-- GENERATOR_STEP (R29). -/
  | generatorStep
  /-- RECORD_SOUNDS (R49). -/
  | recordSounds
  /-- RECORD_RETIRES (R50). -/
  | recordRetires
  /-- DRAINING_END (R34). -/
  | drainingEnd
  /-- LANE_PROCESSING (R153). -/
  | laneProcessing (l : Fin 16)
  /-- PULSE_END (R156). -/
  | pulseEnd (l : Fin 16)
  /-- RUN_END (R160). -/
  | runEnd (l : Fin 16)
  deriving DecidableEq, Repr

end Sys2Proof
end

