-- ==== Sys2Proof/Decode.lean ====
section
/-! DEFINITION. Reading a command frame (R163, R167, R174, sections 9.6 and 9.7) and writing one.
spec/opcode_table.json gives none of its rows any bits, so `decodeTableWord` answers none; the words
of this hardware are the command frames of its desk ports, and `decodeFrame` reads those. -/

namespace Sys2Proof

/-- The table gives no row any bits: no word spells a command. -/
def decodeTableWord (_nbits _w : Nat) : Option Instr := none

/-- The low `n` bytes of `v`, most significant first (R174: frame integers are big-endian). -/
def toBytes : Nat → Nat → List Byte
  | 0, _ => []
  | n + 1, v => BitVec.ofNat 8 (v / 256 ^ n) :: toBytes n v

/-- The number big-endian bytes stand for (R174). -/
def ofBytes (bs : List Byte) : Nat := bs.foldl (fun acc b => acc * 256 + b.toNat) 0

/-- The number in the `n` bytes at byte offset `off` of a payload (section 9.6). -/
def field (payload : List Byte) (off n : Nat) : Nat := ofBytes ((payload.drop off).take n)

/-- The one-byte field at `off`. -/
def field8 (b : List Byte) (off : Nat) : Byte := BitVec.ofNat 8 (field b off 1)
/-- The two-byte field at `off`. -/
def field16 (b : List Byte) (off : Nat) : BitVec 16 := BitVec.ofNat 16 (field b off 2)
/-- The four-byte field at `off`. -/
def field32 (b : List Byte) (off : Nat) : BitVec 32 := BitVec.ofNat 32 (field b off 4)
/-- The six argument bytes at `off`. -/
def field48 (b : List Byte) (off : Nat) : BitVec 48 := BitVec.ofNat 48 (field b off 6)
/-- The house time at `off`. -/
def field64 (b : List Byte) (off : Nat) : Time := BitVec.ofNat 64 (field b off 8)

/-- The two-byte levels that follow the fixed fields of WRITE_STEPS (R174); an odd last byte is no
whole entry. -/
def stepLevels : List Byte → List (BitVec 16)
  | hi :: lo :: rest => BitVec.ofNat 16 (ofBytes [hi, lo]) :: stepLevels rest
  | _ => []

/-- The fetch code, which always begins a fetch frame (R163). -/
def fetchCode : Byte := 0x80

/-- The width of the fixed fields of each command in bytes, by its code; none where the code names no
command (section 9.7, R174, R175). SET_STEP_LENGTH's step length is taken as one byte (log entry 28). -/
def commandLength (code : Byte) : Option Nat :=
  match code.toNat with
  | 0x01 => some 0   -- OPEN
  | 0x02 => some 0   -- CLOSE
  | 0x03 => some 4   -- SET_PROFILE
  | 0x04 => some 0   -- READ_PROFILE
  | 0x05 => some 0   -- READ_IDENTITY
  | 0x10 => some 3   -- SET_TEMPO
  | 0x11 => some 4   -- NUDGE
  | 0x12 => some 1   -- SET_METER
  | 0x13 => some 8   -- START
  | 0x14 => some 1   -- STOP
  | 0x15 => some 3   -- LOCATE
  | 0x16 => some 0   -- GRID_RESET
  | 0x17 => some 1   -- SET_HORIZON
  | 0x18 => some 0   -- READ_POSITION
  | 0x20 => some 14  -- BID
  | 0x21 => some 0   -- YIELD
  | 0x22 => some 0   -- REFUSE
  | 0x23 => some 0   -- RELEASE
  | 0x24 => some 0   -- WITHDRAW
  | 0x25 => some 0   -- KEEP
  | 0x26 => some 1   -- HAND_TO_TAP
  | 0x27 => some 0   -- READ_LEADERSHIP
  | 0x30 => some 6   -- SET_TAP
  | 0x31 => some 1   -- TAP_CLEAR
  | 0x32 => some 1   -- READ_TAP
  | 0x38 => some 1   -- SET_ALLOCATION
  | 0x39 => some 16  -- SCHEDULE_CUE
  | 0x3A => some 3   -- CANCEL_CUE
  | 0x3B => some 1   -- READ_CUES
  | 0x40 => some 4   -- WRITE_STEPS, before the levels
  | 0x41 => some 3   -- READ_STEPS
  | 0x42 => some 1   -- LOAD_MASK
  | 0x43 => some 0   -- MASK_RESET
  | 0x44 => some 2   -- LOAD_FILL
  | 0x45 => some 4   -- BLOCK_FILL
  | 0x46 => some 2   -- ROW_FILL
  | 0x48 => some 3   -- LOAD_ROW
  | 0x49 => some 3   -- HALF_LOAD
  | 0x4A => some 2   -- SET_STEP_LENGTH
  | 0x4B => some 2   -- READ_PLAYER
  | 0x50 => some 2   -- CLAIM_LANES
  | 0x51 => some 2   -- RELEASE_LANES
  | 0x52 => some 2   -- CLAIM_PLAYER
  | 0x53 => some 2   -- RELEASE_PLAYER
  | 0x54 => some 30  -- SET_LANE
  | 0x55 => some 2   -- MUTE
  | 0x56 => some 2   -- UNMUTE
  | 0x57 => some 1   -- READ_LANE
  | 0x60 => some 3   -- SET_NOTICES
  | 0x61 => some 0   -- READ_NOTICES
  | _ => none

/-- The lane settings record in the layout of section 9.6, from byte offset `o`. -/
def rawLaneSettings (b : List Byte) (o : Nat) : RawLaneSettings where
  mode := field8 b o
  divisor := field16 b (o + 1)
  phase := field16 b (o + 3)
  base := field8 b (o + 5)
  clockWidth := field32 b (o + 6)
  soft := field32 b (o + 10)
  normal := field32 b (o + 14)
  accent := field32 b (o + 18)
  srcPlayer := field8 b (o + 22)
  srcPlane := field8 b (o + 23)
  offset := field32 b (o + 24)
  polarity := field8 b (o + 28)

/-- The fields of SCHEDULE_CUE in the order R104 lists them, at the widths of R174. -/
def rawCue (b : List Byte) : RawCue where
  trigger := field8 b 0
  phraseK := field8 b 1
  bar := field16 b 2
  beat := field8 b 4
  pulse := field8 b 5
  action := field8 b 6
  arguments := field48 b 7
  tag := field16 b 13
  policy := field8 b 15

/-- The command that a code and a long enough payload `b` spell on port `p`; `other` where the code
names no command (log entry 28 for SET_STEP_LENGTH's step length). -/
def spellCommand (p : Port) (code : Byte) (b : List Byte) (other : Instr) : Instr :=
  match code.toNat with
  | 0x01 => .openPort p
  | 0x02 => .closePort p
  | 0x03 => .setProfile p (field8 b 0) (field8 b 1) (field8 b 2) (field8 b 3)
  | 0x04 => .readProfile p
  | 0x05 => .readIdentity p
  | 0x10 => .setTempo p (field16 b 0) (field8 b 2)
  | 0x11 => .nudge p (field32 b 0)
  | 0x12 => .setMeter p (field8 b 0)
  | 0x13 => .start p (field64 b 0)
  | 0x14 => .stop p (field8 b 0)
  | 0x15 => .locate p (field16 b 0) (field8 b 2)
  | 0x16 => .gridReset p
  | 0x17 => .setHorizon p (field8 b 0)
  | 0x18 => .readPosition p
  | 0x20 => .bid p (field8 b 0) (field16 b 1) (field16 b 3) (field64 b 5) (field8 b 13)
  | 0x21 => .yieldLead p
  | 0x22 => .refuse p
  | 0x23 => .release p
  | 0x24 => .withdraw p
  | 0x25 => .keep p
  | 0x26 => .handToTap p (field8 b 0)
  | 0x27 => .readLeadership p
  | 0x30 => .setTap p (field8 b 0) (field8 b 1) (field32 b 2)
  | 0x31 => .tapClear p (field8 b 0)
  | 0x32 => .readTap p (field8 b 0)
  | 0x38 => .setAllocation p (field8 b 0)
  | 0x39 => .scheduleCue p (rawCue b)
  | 0x3A => .cancelCue p (field8 b 0) (field16 b 1)
  | 0x3B => .readCues p (field8 b 0)
  | 0x40 => .writeSteps p (field8 b 0) (field8 b 1) (field8 b 2) (field8 b 3) (stepLevels (b.drop 4))
  | 0x41 => .readSteps p (field8 b 0) (field8 b 1) (field8 b 2)
  | 0x42 => .loadMask p (field8 b 0)
  | 0x43 => .maskReset p
  | 0x44 => .loadFill p (field16 b 0)
  | 0x45 => .blockFill p (field8 b 0) (field8 b 1) (field8 b 2) (field8 b 3)
  | 0x46 => .rowFill p (field8 b 0) (field8 b 1)
  | 0x48 => .loadRow p (field8 b 0) (field8 b 1) (field8 b 2)
  | 0x49 => .halfLoad p (field8 b 0) (field8 b 1) (field8 b 2)
  | 0x4A => .setStepLength p (field8 b 0) (field8 b 1)
  | 0x4B => .readPlayer p (field8 b 0) (field8 b 1)
  | 0x50 => .claimLanes p (field8 b 0) (field8 b 1)
  | 0x51 => .releaseLanes p (field8 b 0) (field8 b 1)
  | 0x52 => .claimPlayer p (field8 b 0) (field8 b 1)
  | 0x53 => .releasePlayer p (field8 b 0) (field8 b 1)
  | 0x54 => .setLane p (field8 b 0) (rawLaneSettings b 1)
  | 0x55 => .mute p (field16 b 0)
  | 0x56 => .unmute p (field16 b 0)
  | 0x57 => .readLane p (field8 b 0)
  | 0x60 => .setNotices p (field16 b 0) (field8 b 2)
  | 0x61 => .readNotices p
  | _ => other

/-- Check 1 of R167: the frame carries a declared payload length and as many payload bytes as that
length calls for. -/
def frameComplete (rest : List Byte) : Bool :=
  match rest with
  | [] => false
  | len :: payload => decide (len.toNat ≤ payload.length)

/-- The command a command frame of port `p` spells, from its code and the bytes after it (R167). A
frame that spells none (check 1 fails, the code names no command, or the declared payload is shorter
than the command's fixed fields) is the row UNKNOWN_COMMAND, whose meaning answers it. Bytes beyond
the declared length are ignored. -/
def decodeFrame (p : Port) (code : Byte) (rest : List Byte) : Instr :=
  match rest with
  | [] => .unknownCommand p code rest
  | len :: payload =>
    if payload.length < len.toNat then .unknownCommand p code rest
    else
      match commandLength code with
      | none => .unknownCommand p code rest
      | some n =>
        if len.toNat < n then .unknownCommand p code rest
        else spellCommand p code (payload.take len.toNat) (.unknownCommand p code rest)

/-- The port that sends a command or ends a frame; none for the reset, the taps' edges and the events
of time. -/
def Instr.port? : Instr → Option Port
  | .commandFrame p _ _ | .fetchFrame p _ | .emptyFrame p | .unknownCommand p _ _ => some p
  | .openPort p | .closePort p | .setProfile p _ _ _ _ | .readProfile p | .readIdentity p => some p
  | .setTempo p _ _ | .nudge p _ | .setMeter p _ | .start p _ | .stop p _ | .locate p _ _ => some p
  | .gridReset p | .setHorizon p _ | .readPosition p | .bid p _ _ _ _ _ | .yieldLead p => some p
  | .refuse p | .withdraw p | .release p | .keep p | .handToTap p _ | .readLeadership p => some p
  | .setTap p _ _ _ | .tapClear p _ | .readTap p _ | .setAllocation p _ | .scheduleCue p _ => some p
  | .cancelCue p _ _ | .readCues p _ | .writeSteps p _ _ _ _ _ | .readSteps p _ _ _ => some p
  | .loadMask p _ | .maskReset p | .loadFill p _ | .blockFill p _ _ _ _ | .rowFill p _ _ => some p
  | .loadRow p _ _ _ | .halfLoad p _ _ _ | .setStepLength p _ _ | .readPlayer p _ _ => some p
  | .claimLanes p _ _ | .releaseLanes p _ _ | .claimPlayer p _ _ | .releasePlayer p _ _ => some p
  | .setLane p _ _ | .mute p _ | .unmute p _ | .readLane p _ | .setNotices p _ _ => some p
  | .readNotices p => some p
  | .reset | .resetRelease | .patternClearEnd | .waitTimerExpiry | .silenceTimerExpiry => none
  | .tapEdge _ | .tapSilenceDeadline _ | .launchStep | .generatorStep | .recordSounds => none
  | .recordRetires | .drainingEnd | .laneProcessing _ | .pulseEnd _ | .runEnd _ => none

/-- The bytes of a lane settings record, 29 of them (section 9.6). -/
def laneSettingsBytes (r : RawLaneSettings) : List Byte :=
  toBytes 1 r.mode.toNat ++ toBytes 2 r.divisor.toNat ++ toBytes 2 r.phase.toNat
    ++ toBytes 1 r.base.toNat ++ toBytes 4 r.clockWidth.toNat ++ toBytes 4 r.soft.toNat
    ++ toBytes 4 r.normal.toNat ++ toBytes 4 r.accent.toNat ++ toBytes 1 r.srcPlayer.toNat
    ++ toBytes 1 r.srcPlane.toNat ++ toBytes 4 r.offset.toNat ++ toBytes 1 r.polarity.toNat

/-- The bytes of SCHEDULE_CUE's fields, 16 of them. -/
def rawCueBytes (c : RawCue) : List Byte :=
  toBytes 1 c.trigger.toNat ++ toBytes 1 c.phraseK.toNat ++ toBytes 2 c.bar.toNat
    ++ toBytes 1 c.beat.toNat ++ toBytes 1 c.pulse.toNat ++ toBytes 1 c.action.toNat
    ++ toBytes 6 c.arguments.toNat ++ toBytes 2 c.tag.toNat ++ toBytes 1 c.policy.toNat

/-- The code and payload of the command frame that carries a command of section 9.7; none for the
rows that are no such command. -/
def commandPayload : Instr → Option (Byte × List Byte)
  | .openPort _ => some (0x01, [])
  | .closePort _ => some (0x02, [])
  | .setProfile _ e r l a => some (0x03, [e, r, l, a])
  | .readProfile _ => some (0x04, [])
  | .readIdentity _ => some (0x05, [])
  | .setTempo _ c g => some (0x10, toBytes 2 c.toNat ++ [g])
  | .nudge _ d => some (0x11, toBytes 4 d.toNat)
  | .setMeter _ m => some (0x12, [m])
  | .start _ t => some (0x13, toBytes 8 t.toNat)
  | .stop _ q => some (0x14, [q])
  | .locate _ bar beat => some (0x15, toBytes 2 bar.toNat ++ [beat])
  | .gridReset _ => some (0x16, [])
  | .setHorizon _ h => some (0x17, [h])
  | .readPosition _ => some (0x18, [])
  | .bid _ k w c t g =>
    some (0x20, [k] ++ toBytes 2 w.toNat ++ toBytes 2 c.toNat ++ toBytes 8 t.toNat ++ [g])
  | .yieldLead _ => some (0x21, [])
  | .refuse _ => some (0x22, [])
  | .release _ => some (0x23, [])
  | .withdraw _ => some (0x24, [])
  | .keep _ => some (0x25, [])
  | .handToTap _ t => some (0x26, [t])
  | .readLeadership _ => some (0x27, [])
  | .setTap _ t k o => some (0x30, [t, k] ++ toBytes 4 o.toNat)
  | .tapClear _ t => some (0x31, [t])
  | .readTap _ t => some (0x32, [t])
  | .setAllocation _ n => some (0x38, [n])
  | .scheduleCue _ c => some (0x39, rawCueBytes c)
  | .cancelCue _ id tag => some (0x3A, [id] ++ toBytes 2 tag.toNat)
  | .readCues _ f => some (0x3B, [f])
  | .writeSteps _ row first count planes levels =>
    some (0x40, [row, first, count, planes] ++ levels.flatMap (fun l => toBytes 2 l.toNat))
  | .readSteps _ row first count => some (0x41, [row, first, count])
  | .loadMask _ m => some (0x42, [m])
  | .maskReset _ => some (0x43, [])
  | .loadFill _ l => some (0x44, toBytes 2 l.toNat)
  | .blockFill _ row step pos planes => some (0x45, [row, step, pos, planes])
  | .rowFill _ row planes => some (0x46, [row, planes])
  | .loadRow _ pl row tap => some (0x48, [pl, row, tap])
  | .halfLoad _ pl row tap => some (0x49, [pl, row, tap])
  | .setStepLength _ pl len => some (0x4A, [pl, len])
  | .readPlayer _ pl w => some (0x4B, [pl, w])
  | .claimLanes _ f n => some (0x50, [f, n])
  | .releaseLanes _ f n => some (0x51, [f, n])
  | .claimPlayer _ f n => some (0x52, [f, n])
  | .releasePlayer _ f n => some (0x53, [f, n])
  | .setLane _ l r => some (0x54, [l] ++ laneSettingsBytes r)
  | .mute _ m => some (0x55, toBytes 2 m.toNat)
  | .unmute _ m => some (0x56, toBytes 2 m.toNat)
  | .readLane _ l => some (0x57, [l])
  | .setNotices _ k t => some (0x60, toBytes 2 k.toNat ++ [t])
  | .readNotices _ => some (0x61, [])
  | _ => none

/-- The whole command frame of a row that a command frame spells: its code, its declared payload
length and its payload, or the bytes of a frame that spells no command. Empty for the other rows. -/
def frameBytes (i : Instr) : List Byte :=
  match i with
  | .unknownCommand _ code rest => code :: rest
  | i =>
    match commandPayload i with
    | none => []
    | some (code, payload) => code :: BitVec.ofNat 8 payload.length :: payload

end Sys2Proof
end

