-- ==== Sys2Proof/Machine/State.lean ====
section
/-! DEFINITION. The state of the TG416, block by block, as plain data, the reasons a step may stop, and
the machine right after reset. Each field's docstring names the rule that gives it. -/

namespace Sys2Proof.Machine

/-- A place in the grid, bar.beat.pulse: bar 1-65535, beat 1 to the meter, pulse 0-95 (section 1.7). -/
structure Position where
  bar   : Nat
  beat  : Nat
  pulse : Nat
  deriving DecidableEq, Repr

/-- The leader field: none, a desk port or a tap (R54). -/
inductive Leader where
  | nobody
  | port (p : Port)
  | tap (t : Fin 4)
  deriving DecidableEq, Repr

/-- The tempo engine (section 1.3, R6). Intervals are grains; the slip is signed grains. -/
structure Engine where
  interval     : Nat
  glideTarget  : Nat
  glideStep    : Int
  glideCount   : Nat
  slip         : Int
  meter        : Nat
  pendingMeter : Option Nat
  deriving DecidableEq, Repr

/-- The transport states (section 2.1), in the order of their codes. -/
inductive TransportState where
  | stopped | armed | running | stopPending | draining
  deriving DecidableEq, Repr

/-- The transport controller (R23). The horizon is held in ms. -/
structure Transport where
  state      : TransportState
  horizonMs  : Nat
  launchTime : Option Time
  stopPoint  : Option Position
  rLast      : Option Time
  deriving DecidableEq, Repr

/-- The generator: the position and pulse number of the next record (R16), and its reference time N in
grains (R2). -/
structure Generator where
  position : Position
  pulse    : PulseNumber
  n        : GrainTime
  deriving DecidableEq, Repr

/-- The markers of a record (R42). -/
structure Markers where
  beatStart : Bool
  barStart  : Bool
  launch    : Bool
  last      : Bool
  deriving DecidableEq, Repr

/-- One player's step in a record (R41, R44). -/
structure StepEntry where
  player : Fin 4
  step   : Nat
  levels : Levels
  deriving DecidableEq, Repr

/-- The mute state of a lane (section 8.2). -/
inductive Mute where
  | muted | unmuted
  deriving DecidableEq, Repr

/-- One lane's entry in a record's lane changes (R41, R45). -/
structure LaneChange where
  lane  : Fin 16
  value : Mute
  deriving DecidableEq, Repr

/-- The kinds of a bid (R58). -/
inductive BidKind where
  | plain | matched
  deriving DecidableEq, Repr

/-- The path a grant came by (R75). -/
inductive Route where
  | immediate | yielded | released | deposed | silent | closed
  deriving DecidableEq, Repr

/-- The stages of LOST (R76). -/
inductive LostStage where
  | displaced | contended | refused | timedOut | deposed | silent
  deriving DecidableEq, Repr

/-- The reasons of FREEWHEEL (R76). -/
inductive FreewheelReason where
  | released | silent | closed | tapLost
  deriving DecidableEq, Repr

/-- The states of a tap (R82). -/
inductive TapState where
  | silent | learning | steady
  deriving DecidableEq, Repr

/-- The causes of TAP_STATE (R97). -/
inductive TapCause where
  | edge | restart | silence | clear | settings
  deriving DecidableEq, Repr

/-- The actions of a cue (R101), in the order of their codes. -/
inductive ActionKind where
  | mute | unmute | loadRow | halfLoad | tempo | meter | stop | mark
  deriving DecidableEq, Repr

/-- The reasons of CUE_DROPPED (R113). -/
inductive DropReason where
  | notLeader | notHeld | notPrimed | busy | relocated
  deriving DecidableEq, Repr

/-- The halves of a play register (section 7.4). -/
inductive Half where
  | lower | upper
  deriving DecidableEq, Repr

/-- The kinds of notice with their arguments (section 9.6). -/
inductive NoticeBody where
  | handoverRequest (bidder : Port) (rank : Nat) (kind : BidKind) (wait tempo glide : Nat)
  | leadGranted (route : Route) (kind : BidKind) (tempo glide : Nat) (delta : Option Int) (clamped : Bool)
  | lost (stage : LostStage) (other : Option Port)
  | freewheel (reason : FreewheelReason) (former : Leader)
  | transport (state : TransportState)
  | tapState (tap : Fin 4) (state : TapState) (cause : TapCause) (count : Nat) (tempo : Option Nat)
  | cueFired (id : Nat) (tag : BitVec 16) (action : ActionKind) (skipped : Bool) (lanes : BitVec 16)
  | cueDropped (id : Nat) (tag : BitVec 16) (action : ActionKind) (reason : DropReason) (fire : Position)
  | halfFree (player : Fin 4) (free : Half) (step row : Nat)
  | bar
  | overrun (code : Byte)
  deriving DecidableEq, Repr

/-- A notice record (R176). -/
structure Notice where
  body     : NoticeBody
  time     : BitVec 32
  position : Option Position
  deriving DecidableEq, Repr

/-- One port's sound-notice entry in a record (R41, R179). -/
structure SoundEntry where
  port    : Port
  session : Session
  bodies  : List NoticeBody
  deriving DecidableEq, Repr

/-- A pulse record (R41). `sounded` is the model's own: whether RECORD_SOUNDS has handed the record's
sound notices over (log entry 5). -/
structure PulseRecord where
  pulse       : PulseNumber
  refTime     : Time
  position    : Position
  interval    : Nat
  markers     : Markers
  steps       : List StepEntry
  laneChanges : List LaneChange
  sounds      : List SoundEntry
  sounded     : Bool
  deriving DecidableEq, Repr

/-- The last beat start of the horizon queue (R40). -/
structure BeatMark where
  pulse    : PulseNumber
  position : Position
  refTime  : Time
  deriving DecidableEq, Repr

/-- A pending bid (R58). `tempo`, `beatRef` and `glide` are meaningful for a MATCHED bid. -/
structure Bid where
  bidder  : Port
  rank    : Nat
  kind    : BidKind
  tempo   : Nat
  beatRef : Time
  glide   : Nat
  wait    : Nat
  deriving DecidableEq, Repr

/-- The lead arbiter (R54): the leader field, the slot, and the expiry times of the handover wait timer
and the leader silence timer where they run. -/
structure Arbiter where
  leader        : Leader
  slot          : Option Bid
  waitExpiry    : Option Time
  silenceExpiry : Option Time
  deriving DecidableEq, Repr

/-- One tap (section 5.1). -/
structure Tap where
  k                : Nat
  offset           : Int
  ring             : List Time
  state            : TapState
  suspect          : Bool
  debounceRef      : Option Time
  deadline         : Option Time
  measuredInterval : Option Nat
  measuredTempo    : Option Nat
  follow           : Bool
  deriving DecidableEq, Repr

/-- The trigger of a cue, as sent (R101). -/
inductive Trigger where
  | at (p : Position)
  | nextBeat
  | nextBar
  | nextPhrase (k : Nat)
  deriving DecidableEq, Repr

/-- The action of a cue with its arguments (R103). -/
inductive CueAction where
  | mute (lanes : BitVec 16)
  | unmute (lanes : BitVec 16)
  | loadRow (player : Fin 4) (row tap : Nat)
  | halfLoad (player : Fin 4) (row tap : Nat)
  | tempo (c glide : Nat)
  | meter (m : Nat)
  | stop
  | mark
  deriving DecidableEq, Repr

/-- The late policies (R101). -/
inductive LatePolicy where
  | drop | fire
  deriving DecidableEq, Repr

/-- A cue record (R101). -/
structure Cue where
  id      : Nat
  owner   : Port
  tag     : BitVec 16
  trigger : Trigger
  fire    : Position
  action  : CueAction
  policy  : LatePolicy
  late    : Bool
  carried : Bool
  deriving DecidableEq, Repr

/-- The mask modes (section 7.2). -/
inductive MaskMode where
  | oneShot | held
  deriving DecidableEq, Repr

/-- The write settings of a port (R122). -/
structure WriteSettings where
  mode    : MaskMode
  heldSet : BitVec 8
  fill    : Levels
  deriving DecidableEq, Repr

/-- A player (section 7.4). The play register is a list of cells in the canonical form of the pattern
memory, the cell of a step and a plane at key step × 8 + plane. -/
structure Player where
  primed        : Bool
  register      : List Host.Cell
  sourceLower   : Nat
  sourceUpper   : Nat
  cursor        : Nat
  home          : Nat
  stepLength    : Nat
  pendingLength : Option Nat
  halfTap       : Option (Half × Nat)
  rowJump       : Option Nat
  deriving DecidableEq, Repr

/-- The modes of a lane (section 8.2). -/
inductive LaneMode where
  | off | clock | gate | run
  deriving DecidableEq, Repr

/-- The count bases of a lane (section 8.2). -/
inductive CountBase where
  | bar | launch
  deriving DecidableEq, Repr

/-- The polarities of a lane (section 8.2). -/
inductive Polarity where
  | activeHigh | activeLow
  deriving DecidableEq, Repr

/-- The settings record of a lane (section 8.2). -/
structure LaneSettings where
  mode       : LaneMode
  divisor    : Nat
  phase      : Nat
  base       : CountBase
  clockWidth : Nat
  soft       : Nat
  normal     : Nat
  accent     : Nat
  srcPlayer  : Fin 4
  srcPlane   : Fin 8
  offset     : Int
  polarity   : Polarity
  deriving DecidableEq, Repr

/-- What a lane's cursor names: a record by its pulse number, or the next record to be generated (R52). -/
inductive Cursor where
  | at (pulse : PulseNumber)
  | next
  deriving DecidableEq, Repr

/-- The output level of a lane (section 8.2). -/
inductive Output where
  | active | inactive
  deriving DecidableEq, Repr

/-- A lane driver (section 8.2). -/
structure Lane where
  settings  : LaneSettings
  mute      : Mute
  cursor    : Option Cursor
  output    : Output
  pulseEnd  : Option Time
  runFlag   : Bool
  runEnd    : Option Time
  launchRef : PulseNumber
  deriving DecidableEq, Repr

/-- The statuses of a reply (section 9.3). -/
inductive Status where
  | ok | clamped | pending | already | busy | locked | range | notOpen | notLeader | notEligible
  | notHeld | held | noRoom | inUse | past | tooLate | lost | notSteady | notPrimed | badFrame | unknown
  deriving DecidableEq, Repr

/-- A reply: its status, the echoed command code and its payload (section 9.6). -/
structure Reply where
  status  : Status
  code    : Byte
  payload : List Byte
  deriving DecidableEq, Repr

/-- The command frame in flight: its code, and the bytes after it, which the port still has to check
when the command is taken (R164, R167, log entry 23). -/
structure Frame where
  code : Byte
  rest : List Byte
  deriving DecidableEq, Repr

/-- A desk port (section 9.1). `takeAt`, the instant in the window of R164 at which the frame in flight
is taken if nothing takes it sooner, and `dataOut`, the bytes the port's last frame shifted out on
data-out (R163, R165), are the model's own (log entries 3 and 6). -/
structure DeskPort where
  isOpen       : Bool
  eligible     : Bool
  rank         : Nat
  silenceLimit : Nat
  attention    : Bool
  reply        : Option Reply
  inFlight     : Option Frame
  ready        : Bool
  attn         : Bool
  session      : Session
  takeAt       : Option Time
  dataOut      : List Byte
  deriving DecidableEq, Repr

/-- The notice timings (R176). -/
inductive Timing where
  | arm | sound
  deriving DecidableEq, Repr

/-- The notice unit's part for one port (R176). Bit n of `enabled` is the kind of code n. -/
structure NoticeQueue where
  queue      : List Notice
  overflowed : Bool
  enabled    : BitVec 16
  timing     : Timing
  deriving DecidableEq, Repr

/-- The whole part, and the queue of the commands and events that are waiting. The port-indexed
vectors are indexed by `Port.idx`. -/
structure State where
  /-- RST is held low (R1). -/
  rstLow         : Bool
  /-- House time (R1). -/
  houseTime      : Time
  /-- The pattern memory's clear operation runs (R121). -/
  clearing       : Bool
  engine         : Engine
  transport      : Transport
  gen            : Generator
  /-- The horizon queue's records, oldest first (R40). -/
  queue          : List PulseRecord
  /-- The last beat start (R40). -/
  lastBeat       : Option BeatMark
  arbiter        : Arbiter
  taps           : Vector Tap 4
  /-- The cues of the pool in pool order; a slot is empty when no cue has its id (R98, R106). -/
  cues           : List Cue
  /-- The ports' allocations (R99). -/
  allocations    : Vector Nat 4
  /-- The pattern memory: the cells that are not 0, by rising address (row × 64 + step) × 8 + plane
  (R120). -/
  patternMem     : List Host.Cell
  writeSettings  : Vector WriteSettings 4
  players        : Vector Player 4
  /-- The claims table: the holder of each lane and of each player (R142). -/
  laneClaims     : Vector (Option Port) 16
  playerClaims   : Vector (Option Port) 4
  lanes          : Vector Lane 16
  ports          : Vector DeskPort 4
  notices        : Vector NoticeQueue 4
  /-- The model's own: how many command frames have been accepted, the argument of the next free delay
  of R164 (log entry 3). -/
  acceptedFrames : Nat
  /-- The model's own: how many idle steps have chosen an event, the argument of the next free choice
  (log entry 4). -/
  choices        : Nat
  /-- The commands and events that are waiting, the next one first. -/
  pending        : List Instr
  deriving DecidableEq, Repr

/-- Faults. The spec gives the TG416 none: whatever a frame, an edge or an event of time holds, a rule
says what the part does with it. The type has no constructor, so no step can answer a fault (log entry 25). -/
inductive Fault where
  deriving DecidableEq, Repr

/-- Refusals. -/
inductive Refusal where
  /-- Raised by `exec` for a row of the opcode table that has no meaning yet. Safe: the machine stops.
  No arm of this model raises it. -/
  | notModelled (mnemonic : String)
  deriving DecidableEq, Repr

/-- The tempo engine at power-on (R6). -/
def Engine.reset : Engine where
  interval := 341333333
  glideTarget := 341333333
  glideStep := 0
  glideCount := 0
  slip := 0
  meter := 4
  pendingMeter := none

/-- The transport controller at power-on (R23). -/
def Transport.reset : Transport where
  state := .stopped
  horizonMs := 20
  launchTime := none
  stopPoint := none
  rLast := none

/-- The generator at power-on (R2, R16, R23). -/
def Generator.reset : Generator where
  position := ⟨1, 1, 0⟩
  pulse := 0
  n := 0

/-- The lead arbiter at power-on (R54). -/
def Arbiter.reset : Arbiter where
  leader := .nobody
  slot := none
  waitExpiry := none
  silenceExpiry := none

/-- A tap at power-on (R79). -/
def Tap.reset : Tap where
  k := 1
  offset := 0
  ring := []
  state := .silent
  suspect := false
  debounceRef := none
  deadline := none
  measuredInterval := none
  measuredTempo := none
  follow := false

/-- A port's write settings at power-on and after its close (R122). -/
def WriteSettings.reset : WriteSettings where
  mode := .oneShot
  heldSet := 0
  fill := Vector.replicate 8 0

/-- A player at power-on (R129). -/
def Player.reset : Player where
  primed := false
  register := []
  sourceLower := 0
  sourceUpper := 0
  cursor := 0
  home := 0
  stepLength := 6
  pendingLength := none
  halfTap := none
  rowJump := none

/-- The default settings record of a lane (section 8.2). -/
def LaneSettings.reset : LaneSettings where
  mode := .off
  divisor := 24
  phase := 0
  base := .bar
  clockWidth := 5000
  soft := 10000
  normal := 20000
  accent := 40000
  srcPlayer := 0
  srcPlane := 0
  offset := 0
  polarity := .activeHigh

/-- A lane driver at power-on (R146). -/
def Lane.reset : Lane where
  settings := LaneSettings.reset
  mute := .unmuted
  cursor := none
  output := .inactive
  pulseEnd := none
  runFlag := false
  runEnd := none
  launchRef := 0

/-- A desk port at power-on (section 9.1, R162, R180). -/
def DeskPort.reset : DeskPort where
  isOpen := false
  eligible := true
  rank := 0
  silenceLimit := 20
  attention := true
  reply := none
  inFlight := none
  ready := true
  attn := false
  session := 0
  takeAt := none
  dataOut := []

/-- A port's notice queue and settings at power-on: empty, every kind enabled but BAR, timing ARM
(R176). Kinds 1 to 9 and 11 are bits 1 to 9 and 11. -/
def NoticeQueue.reset : NoticeQueue where
  queue := []
  overflowed := false
  enabled := 0x0BFE
  timing := .arm

/-- The machine right after reset: RST has just been released, house time is 0 and the pattern memory's
clear operation has begun (R1, R121; log entry 1). The cells are given as 0, which no command can see
before the clear ends (log entry 2). -/
def State.reset : State where
  rstLow := false
  houseTime := 0
  clearing := true
  engine := Engine.reset
  transport := Transport.reset
  gen := Generator.reset
  queue := []
  lastBeat := none
  arbiter := Arbiter.reset
  taps := Vector.replicate 4 Tap.reset
  cues := []
  allocations := Vector.replicate 4 32
  patternMem := []
  writeSettings := Vector.replicate 4 WriteSettings.reset
  players := Vector.replicate 4 Player.reset
  laneClaims := Vector.replicate 16 none
  playerClaims := Vector.replicate 4 none
  lanes := Vector.replicate 16 Lane.reset
  ports := Vector.replicate 4 DeskPort.reset
  notices := Vector.replicate 4 NoticeQueue.reset
  acceptedFrames := 0
  choices := 0
  pending := []

end Sys2Proof.Machine
end

