-- ==== Sys2Proof/Machine/Ops.lean ====
section
/-! DEFINITION. The shared operations over house time, the port-, tap-, player- and lane-indexed state,
and the cells of the pattern memory and the play registers. -/

namespace Sys2Proof

/-- A port's place in the port-indexed vectors. -/
def Port.idx : Port → Fin 4
  | .a => 0
  | .b => 1
  | .c => 2
  | .d => 3

/-- The four ports, A to D. -/
def Port.all : List Port := [.a, .b, .c, .d]

/-- The taps and the players, 0 to 3. -/
def fourAll : List (Fin 4) := [0, 1, 2, 3]

/-- The lanes, 0 to 15. -/
def lanesAll : List (Fin 16) := [0, 1, 2, 3, 4, 5, 6, 7, 8, 9, 10, 11, 12, 13, 14, 15]

namespace Machine

/-! ### Parts of the state -/

/-- The desk port `p`. -/
def State.port (s : State) (p : Port) : DeskPort := s.ports[p.idx]

/-- `s` with the desk port `p` replaced. -/
def State.setPort (s : State) (p : Port) (d : DeskPort) : State :=
  { s with ports := s.ports.set p.idx d p.idx.isLt }

/-- The notice queue and settings of port `p`. -/
def State.noticeQueue (s : State) (p : Port) : NoticeQueue := s.notices[p.idx]

/-- `s` with the notice queue and settings of port `p` replaced. -/
def State.setNoticeQueue (s : State) (p : Port) (q : NoticeQueue) : State :=
  { s with notices := s.notices.set p.idx q p.idx.isLt }

/-- The write settings of port `p`. -/
def State.writeSetting (s : State) (p : Port) : WriteSettings := s.writeSettings[p.idx]

/-- `s` with the write settings of port `p` replaced. -/
def State.setWriteSetting (s : State) (p : Port) (w : WriteSettings) : State :=
  { s with writeSettings := s.writeSettings.set p.idx w p.idx.isLt }

/-- The allocation of port `p`. -/
def State.allocation (s : State) (p : Port) : Nat := s.allocations[p.idx]

/-- `s` with the allocation of port `p` replaced. -/
def State.setAllocation (s : State) (p : Port) (n : Nat) : State :=
  { s with allocations := s.allocations.set p.idx n p.idx.isLt }

/-- Tap `t`. -/
def State.tap (s : State) (t : Fin 4) : Tap := s.taps[t]

/-- `s` with tap `t` replaced. -/
def State.setTap (s : State) (t : Fin 4) (v : Tap) : State :=
  { s with taps := s.taps.set t v t.isLt }

/-- Player `i`. -/
def State.player (s : State) (i : Fin 4) : Player := s.players[i]

/-- `s` with player `i` replaced. -/
def State.setPlayer (s : State) (i : Fin 4) (v : Player) : State :=
  { s with players := s.players.set i v i.isLt }

/-- Lane `l`. -/
def State.lane (s : State) (l : Fin 16) : Lane := s.lanes[l]

/-- `s` with lane `l` replaced. -/
def State.setLane (s : State) (l : Fin 16) (v : Lane) : State :=
  { s with lanes := s.lanes.set l v l.isLt }

/-- The port that holds lane `l`, or none (R142). -/
def State.laneHolder (s : State) (l : Fin 16) : Option Port := s.laneClaims[l]

/-- The port that holds player `i`, or none (R142). -/
def State.playerHolder (s : State) (i : Fin 4) : Option Port := s.playerClaims[i]

/-- How many cues of the pool port `p` holds (R99). -/
def State.cueCount (s : State) (p : Port) : Nat := (s.cues.filter (fun c => c.owner = p)).length

/-- Port `p` is the leader (R56). -/
def State.leads (s : State) (p : Port) : Bool := decide (s.arbiter.leader = .port p)

/-- Port `p` holds the pending bid (R57). -/
def State.bids (s : State) (p : Port) : Bool :=
  match s.arbiter.slot with
  | some b => decide (b.bidder = p)
  | none => false

/-! ### House time -/

/-- House time `us` microseconds after `t`, modulo 2^64 (R1). -/
def later (t : Time) (us : Nat) : Time := t + BitVec.ofNat 64 us

/-- House time `us` microseconds before `t`, modulo 2^64 (R1). -/
def earlier (t : Time) (us : Nat) : Time := t - BitVec.ofNat 64 us

/-- A house time moved by a signed number of microseconds, modulo 2^64 (R1). -/
def shifted (t : Time) (us : Int) : Time := t + BitVec.ofInt 64 us

/-- House time has reached `t`, compared as unsigned 64-bit values (R1). -/
def State.reached (s : State) (t : Time) : Bool := decide (t.toNat ≤ s.houseTime.toNat)

/-- The event set for the house time `t?`, if one is set, is due (R1). -/
def State.due (s : State) (t? : Option Time) : Bool :=
  match t? with
  | some t => s.reached t
  | none => false

/-- The difference of two house times modulo 2^64, read as a signed 64-bit number (R81). -/
def signedDiff (a b : Time) : Int := (a - b).toInt

/-- The time from now to `t` in µs, modulo 2^64. -/
def State.until (s : State) (t : Time) : Nat := (t - s.houseTime).toNat

/-- The low 32 bits of a house time, as a notice carries it (R176). -/
def low32 (t : Time) : BitVec 32 := t.setWidth 32

/-- The horizon H in µs (R23). -/
def State.horizonUs (s : State) : Nat := s.transport.horizonMs * 1000

/-- A time in grains in µs, the floor (R2). -/
def grainsToTime (n : GrainTime) : Time := BitVec.ofNat 64 (n.toNat / 65536)

/-- A house time in grains (R2). -/
def timeToGrains (t : Time) : GrainTime := BitVec.ofNat 80 (t.toNat * 65536)

/-! ### Cells: the pattern memory and the play registers -/

/-- The level byte at address `a`; an address that is not listed reads as 0, what the clear operation
leaves in every cell (R121). -/
def Memory.read : List Host.Cell → Nat → BitVec 8
  | [], _ => 0
  | (k, v) :: m, a => if k = a then v else Memory.read m a

/-- `m` with `v` at address `a`, in canonical form: addresses rising, no entry 0. -/
def Memory.write : List Host.Cell → Nat → BitVec 8 → List Host.Cell
  | [], a, v => if v = 0 then [] else [(a, v)]
  | (k, w) :: m, a, v =>
    if a < k then
      if v = 0 then (k, w) :: m else (a, v) :: (k, w) :: m
    else if a = k then
      if v = 0 then m else (a, v) :: m
    else (k, w) :: Memory.write m a v

/-- The addresses of `m` rise strictly from above `low`, lie below `bound`, and no entry is 0 or above
the highest level. -/
def Memory.risesFrom (bound : Nat) : Nat → List Host.Cell → Bool
  | _, [] => true
  | low, (k, v) :: m =>
    decide (low ≤ k) && decide (k < bound) && decide (v ≠ 0) && decide (v.toNat ≤ 3)
      && Memory.risesFrom bound (k + 1) m

/-- The canonical form of a memory of `bound` cells: addresses strictly rising and below `bound`, every
entry a level 1-3. -/
def Memory.wf (bound : Nat) (m : List Host.Cell) : Bool := Memory.risesFrom bound 0 m

/-- The cells of `m` from address `base` on, `len` of them, moved to begin at `start`. -/
def Memory.window (m : List Host.Cell) (base len start : Nat) : List Host.Cell :=
  (m.filter (fun c => decide (base ≤ c.1) && decide (c.1 < base + len))).map
    (fun c => (c.1 - base + start, c.2))

/-- Cells of one step: one for each plane (R120). -/
def cellsPerStep : Nat := 8

/-- Cells of one row: 64 steps of 8 planes (R120). -/
def cellsPerRow : Nat := 512

/-- Cells of half a play register: 32 steps of 8 planes. -/
def cellsPerHalf : Nat := 256

/-- Cells of the pattern memory: 128 rows (R120). -/
def cellsInMemory : Nat := 65536

/-- The address of the cell of a row, a step and a plane (R120). -/
def cellAddress (row step plane : Nat) : Nat := row * cellsPerRow + step * cellsPerStep + plane

/-- The level at an address. -/
def levelAt (m : List Host.Cell) (a : Nat) : Level := (Memory.read m a).setWidth 2

/-- `m` with a level at an address. -/
def writeLevel (m : List Host.Cell) (a : Nat) (l : Level) : List Host.Cell :=
  Memory.write m a (l.setWidth 8)

/-- The eight levels of a step whose first cell is at `a`. -/
def levelsAt (m : List Host.Cell) (a : Nat) : Levels := Vector.ofFn fun p => levelAt m (a + p.val)

/-- `m` with the levels of the planes in `planes` written into the step whose first cell is at `a`;
the cells of the other planes keep their levels (R123). -/
def writeLevels (m : List Host.Cell) (a : Nat) (planes : BitVec 8) (ls : Levels) : List Host.Cell :=
  (List.finRange 8).foldl
    (fun m p => if planes.getLsbD p.val then writeLevel m (a + p.val) ls[p] else m) m

end Machine

end Sys2Proof
end

