-- ==== Sys2Proof/Machine/Flags.lean ====
section
/-! DEFINITION. The flags and levels the part computes: ATTN (R180), the notice enables (R178), the
freewheel flag (R39), a tap's state from its count (R82), a lane's pin from its output (R146), and
which commands a closed port may send (R167). -/

namespace Sys2Proof.Machine

/-- The code of a notice's kind (section 9.6). -/
def NoticeBody.code : NoticeBody → Nat
  | .handoverRequest .. => 1
  | .leadGranted .. => 2
  | .lost .. => 3
  | .freewheel .. => 4
  | .transport .. => 5
  | .tapState .. => 6
  | .cueFired .. => 7
  | .cueDropped .. => 8
  | .halfFree .. => 9
  | .bar => 10
  | .overrun .. => 11

/-- The kinds to which a port's ARM or SOUND timing applies: CUE_FIRED, HALF_FREE and BAR (R176). -/
def NoticeBody.timed (b : NoticeBody) : Bool := decide (b.code = 7 ∨ b.code = 9 ∨ b.code = 10)

/-- Port `p` has the kind of `b` enabled; HANDOVER_REQUEST is always enabled (R178). -/
def State.enables (s : State) (p : Port) (b : NoticeBody) : Bool :=
  decide (b.code = 1) || (s.noticeQueue p).enabled.getLsbD b.code

/-- The kinds SET_NOTICES takes from a set: codes 1 to 11, HANDOVER_REQUEST always (R178). -/
def takenKinds (kinds : BitVec 16) : BitVec 16 := (kinds &&& 0x0FFE) ||| 0x0002

/-- ATTN as R180 gives it: asserted while the port's queue holds a record and its attention enable is
on. -/
def State.attnLevel (s : State) (p : Port) : Bool :=
  !(s.noticeQueue p).queue.isEmpty && (s.port p).attention

/-- ATTN of port `p` follows the queue and the enable (R180, log entry 26). -/
def State.refreshAttn (s : State) (p : Port) : State :=
  s.setPort p { s.port p with attn := s.attnLevel p }

/-- The freewheel flag: making or draining records with no leader (R39). -/
def State.freewheel (s : State) : Bool :=
  decide (s.arbiter.leader = .nobody)
    && decide (s.transport.state = .running ∨ s.transport.state = .stopPending
      ∨ s.transport.state = .draining)

/-- The generator is making records: RUNNING or STOP_PENDING (R29, R135). -/
def State.making (s : State) : Bool :=
  decide (s.transport.state = .running ∨ s.transport.state = .stopPending)

/-- The tap state that follows a ring's count (R82). -/
def tapStateOf (count : Nat) : TapState :=
  if count = 0 then .silent else if count < 4 then .learning else .steady

/-- The pin of a lane is high (R146). -/
def Lane.pinHigh (l : Lane) : Bool :=
  match l.settings.polarity with
  | .activeHigh => decide (l.output = .active)
  | .activeLow => decide (l.output = .inactive)

/-- The commands a CLOSED port may send: OPEN, READ_IDENTITY, READ_POSITION, READ_TAP and
READ_LEADERSHIP (R167, check 3). -/
def openExempt (code : Byte) : Bool :=
  decide (code = 0x01 ∨ code = 0x05 ∨ code = 0x18 ∨ code = 0x32 ∨ code = 0x27)

/-- Every lane of a lane set is held by port `p` (R150, R103). -/
def State.holdsLanes (s : State) (p : Port) (lanes : BitVec 16) : Bool :=
  lanesAll.all fun l => !lanes.getLsbD l.val || decide (s.laneHolder l = some p)

/-- The lanes port `p` holds (R143). -/
def State.heldLanes (s : State) (p : Port) : BitVec 16 :=
  lanesAll.foldl (fun m l => if s.laneHolder l = some p then m ||| BitVec.twoPow 16 l.val else m) 0

/-- The players port `p` holds (R144). -/
def State.heldPlayers (s : State) (p : Port) : BitVec 8 :=
  fourAll.foldl (fun m i => if s.playerHolder i = some p then m ||| BitVec.twoPow 8 i.val else m) 0

/-- The lanes port `p` holds that are MUTED (R150). -/
def State.mutedLanes (s : State) (p : Port) : BitVec 16 :=
  lanesAll.foldl
    (fun m l => if s.laneHolder l = some p ∧ (s.lane l).mute = .muted
      then m ||| BitVec.twoPow 16 l.val else m) 0

end Sys2Proof.Machine
end

