-- ==== Sys2Proof/Machine/Operands.lean ====
section
/-! DEFINITION. The operands of commands: raw wire fields read as identifiers and enumerations (none is
RANGE), and musical quantities brought to their limits (the pair's second part says that the clamp was
needed). -/

namespace Sys2Proof.Machine

/-- A quantity brought into `lo`..`hi`, and whether that was needed. -/
def clampNat (lo hi v : Nat) : Nat × Bool :=
  (max lo (min hi v), decide (v < lo ∨ hi < v))

/-- A signed quantity brought into `lo`..`hi`, and whether that was needed. -/
def clampInt (lo hi v : Int) : Int × Bool :=
  (max lo (min hi v), decide (v < lo ∨ hi < v))

/-- A tempo value brought into 2000-30000 (R3). -/
def clampTempo (c : BitVec 16) : Nat × Bool := clampNat Config.tempoMin Config.tempoMax c.toNat

/-- A glide length brought to at most 64 beats (R12). -/
def clampGlide (g : Byte) : Nat × Bool := clampNat 0 Config.glideBeatsMax g.toNat

/-- A lane width brought into 1-100,000 µs (R149). -/
def clampWidth (w : BitVec 32) : Nat × Bool := clampNat 1 Config.widthMax w.toNat

/-- The status of a taken command: CLAMPED where a clamp was needed, else OK. -/
def takenStatus (clamped : Bool) : Status := if clamped then .clamped else .ok

/-- A flag field: 0 clear, 1 set (R171, R141). -/
def readFlag (b : Byte) : Option Bool :=
  match b.toNat with
  | 0 => some false
  | 1 => some true
  | _ => none

/-- A tap or a player number, 0 to 3 (R71, R130). -/
def readFour (b : Byte) : Option (Fin 4) :=
  if h : b.toNat < 4 then some ⟨b.toNat, h⟩ else none

/-- A lane number, 0 to 15 (R147). -/
def readLaneNumber (b : Byte) : Option (Fin 16) :=
  if h : b.toNat < 16 then some ⟨b.toNat, h⟩ else none

/-- A plane number, 0 to 7 (R147). -/
def readPlane (b : Byte) : Option (Fin 8) :=
  if h : b.toNat < 8 then some ⟨b.toNat, h⟩ else none

/-- The quantize modes of STOP (R30). -/
inductive Quantize where
  | now | nextBeat | nextBar
  deriving DecidableEq, Repr

/-- A quantize mode, in the order R30 lists them. -/
def readQuantize (b : Byte) : Option Quantize :=
  match b.toNat with
  | 0 => some .now
  | 1 => some .nextBeat
  | 2 => some .nextBar
  | _ => none

/-- A bid kind: PLAIN or MATCHED (R59). -/
def readBidKind (b : Byte) : Option BidKind :=
  match b.toNat with
  | 0 => some .plain
  | 1 => some .matched
  | _ => none

/-- Edges per beat: 1, 2, 4 or 24 (R94). -/
def readEdgesPerBeat (b : Byte) : Option Nat :=
  match b.toNat with
  | 1 => some 1
  | 2 => some 2
  | 4 => some 4
  | 24 => some 24
  | _ => none

/-- A notice timing: ARM or SOUND (R178). -/
def readTiming (b : Byte) : Option Timing :=
  match b.toNat with
  | 0 => some .arm
  | 1 => some .sound
  | _ => none

/-- A late policy: DROP or FIRE (R101). -/
def readPolicy (b : Byte) : Option LatePolicy :=
  match b.toNat with
  | 0 => some .drop
  | 1 => some .fire
  | _ => none

/-- A cue action, in the order section 9.6 lists them (R103). -/
def readActionKind (b : Byte) : Option ActionKind :=
  match b.toNat with
  | 0 => some .mute
  | 1 => some .unmute
  | 2 => some .loadRow
  | 3 => some .halfLoad
  | 4 => some .tempo
  | 5 => some .meter
  | 6 => some .stop
  | 7 => some .mark
  | _ => none

/-- A lane mode (section 8.2). -/
def readLaneMode (b : Byte) : Option LaneMode :=
  match b.toNat with
  | 0 => some .off
  | 1 => some .clock
  | 2 => some .gate
  | 3 => some .run
  | _ => none

/-- A count base (section 8.2). -/
def readCountBase (b : Byte) : Option CountBase :=
  match b.toNat with
  | 0 => some .bar
  | 1 => some .launch
  | _ => none

/-- A polarity (section 8.2). -/
def readPolarity (b : Byte) : Option Polarity :=
  match b.toNat with
  | 0 => some .activeHigh
  | 1 => some .activeLow
  | _ => none

/-- The phrase lengths of NEXT_PHRASE: 2, 4, 8 or 16 bars (R102). -/
def readPhrase (b : Byte) : Option Nat :=
  match b.toNat with
  | 2 => some 2
  | 4 => some 4
  | 8 => some 8
  | 16 => some 16
  | _ => none

/-- A trigger: AT with a position in range, NEXT_BEAT, NEXT_BAR, or NEXT_PHRASE with its k (R102,
R104 check 2). Fields the trigger does not use are not checked. -/
def readTrigger (c : RawCue) : Option Trigger :=
  match c.trigger.toNat with
  | 0 =>
    if 1 ≤ c.bar.toNat ∧ 1 ≤ c.beat.toNat ∧ c.beat.toNat ≤ 16 ∧ c.pulse.toNat ≤ 95
    then some (.at ⟨c.bar.toNat, c.beat.toNat, c.pulse.toNat⟩) else none
  | 1 => some .nextBeat
  | 2 => some .nextBar
  | 3 => (readPhrase c.phraseK).map Trigger.nextPhrase
  | _ => none

/-- The n-th argument byte of a cue, from 0, most significant first. -/
def argByte (args : BitVec 48) (n : Nat) : Byte := (args >>> (8 * (5 - n))).setWidth 8

/-- The first two argument bytes of a cue as one number. -/
def argWord (args : BitVec 48) : BitVec 16 := (args >>> 32).setWidth 16

/-- A cue's action with its arguments, and whether a tempo value or glide length was clamped (R103).
None is RANGE: an identifier out of range or an empty lane set. -/
def readAction (kind : ActionKind) (args : BitVec 48) : Option (CueAction × Bool) :=
  match kind with
  | .mute => if argWord args = 0 then none else some (.mute (argWord args), false)
  | .unmute => if argWord args = 0 then none else some (.unmute (argWord args), false)
  | .loadRow =>
    match readFour (argByte args 0) with
    | none => none
    | some i =>
      if (argByte args 1).toNat ≤ 127 ∧ (argByte args 2).toNat ≤ 63
      then some (.loadRow i (argByte args 1).toNat (argByte args 2).toNat, false) else none
  | .halfLoad =>
    match readFour (argByte args 0) with
    | none => none
    | some i =>
      if (argByte args 1).toNat ≤ 127 ∧ (argByte args 2).toNat ≤ 31
      then some (.halfLoad i (argByte args 1).toNat (argByte args 2).toNat, false) else none
  | .tempo =>
    some (.tempo (clampTempo (argWord args)).1 (clampGlide (argByte args 2)).1,
      (clampTempo (argWord args)).2 || (clampGlide (argByte args 2)).2)
  | .meter =>
    if 1 ≤ (argByte args 0).toNat ∧ (argByte args 0).toNat ≤ 16
    then some (.meter (argByte args 0).toNat, false) else none
  | .stop => some (.stop, false)
  | .mark => some (.mark, false)

/-- The kind of a cue's action. -/
def CueAction.kind : CueAction → ActionKind
  | .mute _ => .mute
  | .unmute _ => .unmute
  | .loadRow .. => .loadRow
  | .halfLoad .. => .halfLoad
  | .tempo .. => .tempo
  | .meter _ => .meter
  | .stop => .stop
  | .mark => .mark

/-- The actions that need leadership: TEMPO, METER and STOP (R56, R103). -/
def ActionKind.leaderOnly : ActionKind → Bool
  | .tempo | .meter | .stop => true
  | .mute | .unmute | .loadRow | .halfLoad | .mark => false

/-- The eight levels two wire bytes carry: plane 0 in the two most significant bits (R174). -/
def unpackLevels (w : BitVec 16) : Levels := Vector.ofFn fun p => (w >>> (2 * (7 - p.val))).setWidth 2

/-- Eight levels as the two wire bytes that carry them (R174). -/
def packLevels (ls : Levels) : BitVec 16 :=
  (List.finRange 8).foldl (fun w p => (w <<< 2) ||| ls[p].setWidth 16) 0

end Sys2Proof.Machine
end

