-- ==== Sys2Proof/Machine/Layouts.lean ====
section
/-! DEFINITION. The byte layouts of replies (R173, R174, section 9.6): the encodings of the field kinds,
and the snapshot-independent records (notice, cue, lane settings). Where the spec leaves a layout open,
log entry 7 names what the model fixes. -/

namespace Sys2Proof.Machine

/-- The code of a status (section 9.3). -/
def Status.code : Status → Byte
  | .ok => 0x01
  | .clamped => 0x02
  | .pending => 0x03
  | .already => 0x04
  | .busy => 0x05
  | .locked => 0x06
  | .range => 0x07
  | .notOpen => 0x08
  | .notLeader => 0x09
  | .notEligible => 0x0A
  | .notHeld => 0x0B
  | .held => 0x0C
  | .noRoom => 0x0D
  | .inUse => 0x0E
  | .past => 0x0F
  | .tooLate => 0x10
  | .lost => 0x11
  | .notSteady => 0x12
  | .notPrimed => 0x13
  | .badFrame => 0x14
  | .unknown => 0x15

/-- The bytes of a reply on data-out: status, echoed code, payload length, payload (section 9.6). -/
def Reply.bytes (r : Reply) : List Byte :=
  r.status.code :: r.code :: (toBytes 2 r.payload.length ++ r.payload)

/-- A one-byte number. -/
def byte (n : Nat) : List Byte := toBytes 1 n

/-- A flag: 0 clear, 1 set. -/
def flagByte (b : Bool) : List Byte := [if b then 1 else 0]

/-- A signed four-byte number, two's complement. -/
def signedBytes (x : Int) : List Byte := toBytes 4 (BitVec.ofInt 32 x).toNat

/-- A house time, 8 bytes. -/
def timeBytes (t : Time) : List Byte := toBytes 8 t.toNat

/-- A position: bar (2), beat (1), pulse (1). -/
def positionBytes (p : Position) : List Byte := toBytes 2 p.bar ++ byte p.beat ++ byte p.pulse

/-- A port as a number: 0 none, 1-4 for A-D. -/
def portCode : Option Port → Nat
  | none => 0
  | some p => p.idx.val + 1

/-- A leader as a number: 0 none, 1-4 ports, 5-8 taps. -/
def Leader.code : Leader → Nat
  | .nobody => 0
  | .port p => p.idx.val + 1
  | .tap t => t.val + 5

/-- The presence byte: bit n for the n-th optional field (R174). -/
def presence (bs : List Bool) : List Byte :=
  [BitVec.ofNat 8 (bs.foldr (fun b acc => (if b then 1 else 0) + 2 * acc) 0)]

/-- An optional field at its full width: zeros where absent (R174). -/
def optionBytes {α : Type} (width : Nat) (enc : α → List Byte) : Option α → List Byte
  | some a => enc a
  | none => List.replicate width 0

/-- The code of a transport state. -/
def TransportState.code : TransportState → Nat
  | .stopped => 0
  | .armed => 1
  | .running => 2
  | .stopPending => 3
  | .draining => 4

/-- The code of a bid kind. -/
def BidKind.code : BidKind → Nat
  | .plain => 0
  | .matched => 1

/-- The code of a grant's route. -/
def Route.code : Route → Nat
  | .immediate => 0
  | .yielded => 1
  | .released => 2
  | .deposed => 3
  | .silent => 4
  | .closed => 5

/-- The code of a LOST stage. -/
def LostStage.code : LostStage → Nat
  | .displaced => 0
  | .contended => 1
  | .refused => 2
  | .timedOut => 3
  | .deposed => 4
  | .silent => 5

/-- The code of a FREEWHEEL reason. -/
def FreewheelReason.code : FreewheelReason → Nat
  | .released => 0
  | .silent => 1
  | .closed => 2
  | .tapLost => 3

/-- The code of a tap state. -/
def TapState.code : TapState → Nat
  | .silent => 0
  | .learning => 1
  | .steady => 2

/-- The code of a TAP_STATE cause. -/
def TapCause.code : TapCause → Nat
  | .edge => 0
  | .restart => 1
  | .silence => 2
  | .clear => 3
  | .settings => 4

/-- The code of a cue action. -/
def ActionKind.code : ActionKind → Nat
  | .mute => 0
  | .unmute => 1
  | .loadRow => 2
  | .halfLoad => 3
  | .tempo => 4
  | .meter => 5
  | .stop => 6
  | .mark => 7

/-- The code of a CUE_DROPPED reason. -/
def DropReason.code : DropReason → Nat
  | .notLeader => 0
  | .notHeld => 1
  | .notPrimed => 2
  | .busy => 3
  | .relocated => 4

/-- The code of a half. -/
def Half.code : Half → Nat
  | .lower => 0
  | .upper => 1

/-- The code of a notice timing. -/
def Timing.code : Timing → Nat
  | .arm => 0
  | .sound => 1

/-- The code of a mask mode. -/
def MaskMode.code : MaskMode → Nat
  | .oneShot => 0
  | .held => 1

/-- The code of a lane mode. -/
def LaneMode.code : LaneMode → Nat
  | .off => 0
  | .clock => 1
  | .gate => 2
  | .run => 3

/-- The code of a count base. -/
def CountBase.code : CountBase → Nat
  | .bar => 0
  | .launch => 1

/-- The code of a polarity. -/
def Polarity.code : Polarity → Nat
  | .activeHigh => 0
  | .activeLow => 1

/-- The code of a mute state, in the order section 8.2 lists them. -/
def Mute.code : Mute → Nat
  | .muted => 0
  | .unmuted => 1

/-- The code of an output level, in the order section 8.2 lists them. -/
def Output.code : Output → Nat
  | .active => 0
  | .inactive => 1

/-- The code of a late policy. -/
def LatePolicy.code : LatePolicy → Nat
  | .drop => 0
  | .fire => 1

/-- The arguments of a notice, in the order section 9.6 lists them. -/
def NoticeBody.argBytes : NoticeBody → List Byte
  | .handoverRequest bidder rank kind wait tempo glide =>
    byte (portCode (some bidder)) ++ byte rank ++ byte kind.code ++ toBytes 2 wait
      ++ toBytes 2 tempo ++ byte glide
  | .leadGranted route kind tempo glide delta clamped =>
    byte route.code ++ byte kind.code ++ toBytes 2 tempo ++ byte glide
      ++ optionBytes 4 signedBytes delta ++ presence [delta.isSome, clamped]
  | .lost stage other => byte stage.code ++ byte (portCode other)
  | .freewheel reason former => byte reason.code ++ byte former.code
  | .transport st => byte st.code
  | .tapState t st cause count tempo =>
    byte t.val ++ byte st.code ++ byte cause.code ++ byte count ++ optionBytes 2 (toBytes 2) tempo
  | .cueFired id tag action skipped lanes =>
    byte id ++ toBytes 2 tag.toNat ++ byte action.code ++ flagByte skipped ++ toBytes 2 lanes.toNat
  | .cueDropped id tag action reason fire =>
    byte id ++ toBytes 2 tag.toNat ++ byte action.code ++ byte reason.code ++ positionBytes fire
  | .halfFree player free step row => byte player.val ++ byte free.code ++ byte step ++ byte row
  | .bar => []
  | .overrun code => [code]

/-- A notice record in the layout of section 9.6. -/
def Notice.bytes (n : Notice) : List Byte :=
  byte n.body.code ++ byte n.body.argBytes.length ++ toBytes 4 n.time.toNat
    ++ presence [n.position.isSome] ++ optionBytes 4 positionBytes n.position ++ n.body.argBytes

/-- The trigger of a cue record: kind, phrase k, trigger position (section 9.6). -/
def Trigger.bytes : Trigger → List Byte
  | .at p => byte 0 ++ byte 0 ++ positionBytes p
  | .nextBeat => byte 1 ++ List.replicate 5 0
  | .nextBar => byte 2 ++ List.replicate 5 0
  | .nextPhrase k => byte 3 ++ byte k ++ List.replicate 4 0

/-- The six argument bytes of a cue record (section 9.6). -/
def CueAction.argBytes : CueAction → List Byte
  | .mute lanes => toBytes 2 lanes.toNat ++ List.replicate 4 0
  | .unmute lanes => toBytes 2 lanes.toNat ++ List.replicate 4 0
  | .loadRow i row tap => byte i.val ++ byte row ++ byte tap ++ List.replicate 3 0
  | .halfLoad i row tap => byte i.val ++ byte row ++ byte tap ++ List.replicate 3 0
  | .tempo c g => toBytes 2 c ++ byte g ++ List.replicate 3 0
  | .meter m => byte m ++ List.replicate 5 0
  | .stop => List.replicate 6 0
  | .mark => List.replicate 6 0

/-- A cue record of READ_CUES, 22 bytes (section 9.6). -/
def Cue.bytes (c : Cue) : List Byte :=
  byte c.id ++ toBytes 2 c.tag.toNat ++ c.trigger.bytes ++ positionBytes c.fire
    ++ byte c.action.kind.code ++ byte c.policy.code ++ presence [c.late, c.carried]
    ++ c.action.argBytes

/-- The lane settings record, 29 bytes (section 9.6). -/
def LaneSettings.bytes (r : LaneSettings) : List Byte :=
  byte r.mode.code ++ toBytes 2 r.divisor ++ toBytes 2 r.phase ++ byte r.base.code
    ++ toBytes 4 r.clockWidth ++ toBytes 4 r.soft ++ toBytes 4 r.normal ++ toBytes 4 r.accent
    ++ byte r.srcPlayer.val ++ byte r.srcPlane.val ++ signedBytes r.offset ++ byte r.polarity.code

/-- Eight levels, two bytes (R174). -/
def levelsBytes (ls : Levels) : List Byte := toBytes 2 (packLevels ls).toNat

end Sys2Proof.Machine
end

