-- ==== Sys2Proof/Machine/Posting.lean ====
section
/-! DEFINITION. Posting notices (R176, R177): the one operation that appends to a port's notice queue,
and its uses at the generator position. -/

namespace Sys2Proof.Machine

/-- The notice queue after a notice is posted: appended, or discarded with the overflowed flag set when
the queue already holds 16 records (R177). -/
def NoticeQueue.append (q : NoticeQueue) (n : Notice) : NoticeQueue :=
  if q.queue.length < Config.noticeDepth then { q with queue := q.queue ++ [n] }
  else { q with overflowed := true }

/-- A notice is put to port `p`'s queue whatever the port's enables: a CLOSED port discards it and
leaves its flag (R176), and ATTN follows (R180). -/
def State.give (s : State) (p : Port) (n : Notice) : State :=
  if (s.port p).isOpen then
    (s.setNoticeQueue p ((s.noticeQueue p).append n)).refreshAttn p
  else s

/-- A notice is posted to port `p` at this instant with a position, where the port has its kind enabled
(R177, R178). -/
def State.postAt (s : State) (p : Port) (b : NoticeBody) (pos : Option Position) : State :=
  if s.enables p b then s.give p ⟨b, low32 s.houseTime, pos⟩ else s

/-- A notice is posted to port `p` with the generator position (R177). -/
def State.post (s : State) (p : Port) (b : NoticeBody) : State :=
  s.postAt p b (some s.gen.position)

/-- A notice is posted to every open port that has its kind enabled, A to D (R24, R76, R97). -/
def State.postAll (s : State) (b : NoticeBody) : State :=
  Port.all.foldl (fun s p => s.post p b) s

end Sys2Proof.Machine
end

