-- ==== Sys2Proof/Machine/Frames.lean ====
section
/-! DEFINITION. Frames and the taking of commands (section 9.2): what the end of a frame does, how a
command frame is accepted or ignored, and the one operation through which every command of a desk port
is taken and answered. Also the meanings of COMMAND_FRAME, FETCH_FRAME, EMPTY_FRAME and
UNKNOWN_COMMAND. -/

namespace Sys2Proof.Machine

/-- What a block answers to a command: a status and a payload (R168). -/
structure Answer where
  status  : Status
  payload : List Byte
  deriving DecidableEq, Repr

/-- An answer with no payload. -/
def Answer.bare (st : Status) : Answer := ⟨st, []⟩

/-- The leader silence timer is started afresh from now with port `p`'s limit, if `p` leads; a limit of
0 leaves it stopped (R69). -/
def State.restartSilence (s : State) (p : Port) : State :=
  if s.arbiter.leader = .port p then
    { s with arbiter := { s.arbiter with
        silenceExpiry :=
          if (s.port p).silenceLimit = 0 then none
          else some (later s.houseTime ((s.port p).silenceLimit * 100000)) } }
  else s

/-- What the end of every frame on port `p` does: the bytes shifted out stand on data-out, and the
leader's silence timer is restarted (R69, R163). -/
def State.frameEnds (s : State) (p : Port) (out : List Byte) : State :=
  (s.setPort p { s.port p with dataOut := out }).restartSilence p

/-- A command frame of `n` bytes ends while READY is high: READY goes low and the frame is in flight
(R164). Data-out shifted zeros (R163). The instant of its taking is free within the window (log
entry 3). -/
def State.accept (s : State) (p : Port) (code : Byte) (rest : List Byte) : State :=
  let s := s.frameEnds p (List.replicate (rest.length + 1) 0)
  { s.setPort p { s.port p with
      inFlight := some ⟨code, rest⟩
      ready := false
      takeAt := some (later s.houseTime
        (Config.takeDelay s.acceptedFrames % (Config.takeWindow + 1))) } with
    acceptedFrames := s.acceptedFrames + 1 }

/-- A command frame of `n` bytes ends while READY is low: it is ignored, and an OVERRUN notice carries
its code (R166). -/
def State.overrun (s : State) (p : Port) (code : Byte) (n : Nat) : State :=
  (s.frameEnds p (List.replicate n 0)).postAt p (.overrun code) none

/-- The bytes a fetch frame shifts out after the fetch code: the current reply, then zeros; four zero
bytes and zeros where there is none yet or the frame began while READY was low (R165). READY low at the
frame's end was low at its beginning (log entry 6). -/
def DeskPort.fetchBytes (d : DeskPort) (f : Fetch) : List Byte :=
  let bytes :=
    match d.ready && !f.begunLow, d.reply with
    | true, some r => r.bytes
    | _, _ => List.replicate 4 0
  (bytes ++ List.replicate f.clocked 0).take f.clocked

/-- A fetch frame on port `p` (R165). -/
def State.fetch (s : State) (p : Port) (f : Fetch) : State :=
  s.frameEnds p ((s.port p).fetchBytes f)

/-- The reply to the command taken replaces the current reply, the command in flight becomes absent and
READY returns high (R164). -/
def State.answered (s : State) (p : Port) (code : Byte) (a : Answer) : State :=
  s.setPort p { s.port p with
    reply := some ⟨a.status, code, a.payload⟩
    inFlight := none
    takeAt := none
    ready := true }

/-- The command in flight on port `p` is `i`. -/
def State.awaits (s : State) (p : Port) (i : Instr) : Bool :=
  match (s.port p).inFlight with
  | some f => decide (decodeFrame p f.code f.rest = i)
  | none => false

/-- The command `i` of port `p` comes to be taken (R164, log entry 8). When it is the command in flight,
`finish` takes it. When READY is high, its frame ends and it is taken at this one instant. When
another command is in flight, its frame is ignored with OVERRUN (R166). While RST is low no frame is
taken (R1). -/
def arrive (p : Port) (code : Byte) (i : Instr) (finish : State → State) (s : State) :
    Host.Outcome State Fault Refusal :=
  if s.rstLow then .next s
  else if (s.port p).ready then
    .next (finish (s.frameEnds p (List.replicate (frameBytes i).length 0)))
  else if s.awaits p i then .next (finish s)
  else .next (s.overrun p code (frameBytes i).length)

/-- A command whose frame passed checks 1, 2 and 4 of R167: a CLOSED port is answered NOT_OPEN but for
the commands check 3 excepts; otherwise the owning block's `body` acts and answers. -/
def runCommand (p : Port) (code : Byte) (body : State → State × Answer) (s : State) : State :=
  if (s.port p).isOpen || openExempt code then (body s).1.answered p code (body s).2
  else s.answered p code (.bare .notOpen)

/-- The taking of a command of port `p` (R164, R167). -/
def take (p : Port) (code : Byte) (i : Instr) (body : State → State × Answer) (s : State) :
    Host.Outcome State Fault Refusal :=
  arrive p code i (runCommand p code body) s

/-- A refusal: a status with no payload, and nothing changed (R167, R168). -/
def refusal (s : State) (st : Status) : State × Answer := (s, .bare st)

/-- A leader-only command: refused NOT_LEADER before any other check unless port `p` leads (R56). -/
def asLeader (p : Port) (body : State → State × Answer) (s : State) : State × Answer :=
  if s.leads p then body s else refusal s .notLeader

/-- A command of the pattern memory or the players: answered BUSY while the clear runs (R121). -/
def afterClear (body : State → State × Answer) (s : State) : State × Answer :=
  if s.clearing then refusal s .busy else body s

/-- COMMAND_FRAME (R163, R164, R166). A frame whose first byte is the fetch code is a fetch frame, READY at
its beginning as at its end (log entries 6 and 24). -/
def execCommandFrame (p : Port) (code : Byte) (rest : List Byte) (s : State) :
    Host.Outcome State Fault Refusal :=
  if s.rstLow then .next s
  else if code = fetchCode then .next (s.fetch p ⟨rest.length, false⟩)
  else if (s.port p).ready then .next (s.accept p code rest)
  else .next (s.overrun p code (rest.length + 1))

/-- FETCH_FRAME (R165). -/
def execFetchFrame (p : Port) (f : Fetch) (s : State) : Host.Outcome State Fault Refusal :=
  if s.rstLow then .next s else .next (s.fetch p f)

/-- EMPTY_FRAME (R163): it is not taken, but its end is a frame's end (R69). -/
def execEmptyFrame (p : Port) (s : State) : Host.Outcome State Fault Refusal :=
  if s.rstLow then .next s else .next (s.frameEnds p [])

/-- The status of a frame that spells no command, by the first check of R167 it fails. -/
def unspelledStatus (s : State) (p : Port) (code : Byte) (rest : List Byte) : Status :=
  if frameComplete rest then
    match commandLength code with
    | none => .unknown
    | some _ => if (s.port p).isOpen || openExempt code then .badFrame else .notOpen
  else .badFrame

/-- UNKNOWN_COMMAND (R167, R175): a frame that spells no command is answered by the check it fails. Bytes
that spell a command, or begin with the fetch code, are not this row and change nothing (log entry 24). -/
def execUnknownCommand (p : Port) (code : Byte) (rest : List Byte) (s : State) :
    Host.Outcome State Fault Refusal :=
  if code = fetchCode ∨ decodeFrame p code rest ≠ .unknownCommand p code rest then .next s
  else
    arrive p code (.unknownCommand p code rest)
      (fun s => s.answered p code (.bare (unspelledStatus s p code rest))) s

end Sys2Proof.Machine
end

