-- ==== Sys2Proof/Machine/Grid.lean ====
section
/-! DEFINITION. Grid arithmetic (chapter 1): tempo conversion, the tempo engine's operations, meter and
position counting, and the commands SET_TEMPO, NUDGE and SET_METER. -/

namespace Sys2Proof.Machine

/-! ### Tempo value and pulse interval -/

/-- The pulse interval of a tempo value in 2000-30000, rounded half up (R3). -/
def intervalOf (c : Nat) : Nat := (Config.tempoConstant + c / 2) / c

/-- The tempo value the part reports for an interval (R4). -/
def tempoOf (i : Nat) : Nat := (2 * Config.tempoConstant + i) / (2 * i)

/-- The beat period in µs at an interval (R5). -/
def beatPeriod (i : Nat) : Nat := (96 * i + 32768) / 65536

/-- A signed quantity in grains as µs, truncated toward zero (R2, R15). -/
def slipUs (g : Int) : Int := g.tdiv 65536

/-! ### The engine's operations -/

/-- A tempo change to the tempo value `c` over `beats` beats (R11). -/
def Engine.startTempo (e : Engine) (c beats : Nat) : Engine :=
  if beats = 0 then
    { e with interval := intervalOf c, glideTarget := intervalOf c, glideStep := 0, glideCount := 0 }
  else
    { e with
      glideTarget := intervalOf c
      glideStep := ((intervalOf c : Int) - (e.interval : Int)).tdiv ((96 * beats : Nat) : Int)
      glideCount := 96 * beats }

/-- The addition to the pending slip, clamped to half a beat at the interval in effect, and whether the
clamp was needed (R13). -/
def Engine.addSlip (e : Engine) (grains : Int) : Engine × Bool :=
  let bound : Int := 48 * (e.interval : Int)
  ({ e with slip := (clampInt (-bound) bound (e.slip + grains)).1 },
    (clampInt (-bound) bound (e.slip + grains)).2)

/-- The slip portion of the next step (R8). -/
def Engine.slipPortion (e : Engine) : Int :=
  let limit : Int := ((e.interval / 32 : Nat) : Int)
  (clampInt (-limit) limit e.slip).1

/-- The engine after a record is made: the slip portion is spent, then the glide advances (R8, R9). -/
def Engine.afterRecord (e : Engine) : Engine :=
  let e' := { e with slip := e.slip - e.slipPortion }
  if e'.glideCount > 1 then
    { e' with
      interval := ((e'.interval : Int) + e'.glideStep).toNat
      glideCount := e'.glideCount - 1 }
  else if e'.glideCount = 1 then { e' with interval := e'.glideTarget, glideCount := 0 }
  else e'

/-- The pending meter becomes the meter in effect (R19). -/
def Engine.applyMeter (e : Engine) : Engine :=
  match e.pendingMeter with
  | some m => { e with meter := m, pendingMeter := none }
  | none => e

/-- The tempo engine clears the pending slip (R21, R22). -/
def State.clearSlip (s : State) : State := { s with engine := { s.engine with slip := 0 } }

/-! ### Positions -/

/-- A beat start: pulse 0 (R20). -/
def Position.beatStart (p : Position) : Bool := decide (p.pulse = 0)

/-- A bar start: beat 1, pulse 0 (R20). -/
def Position.barStart (p : Position) : Bool := decide (p.beat = 1) && decide (p.pulse = 0)

/-- The pulse index in the bar (R20). -/
def Position.index (p : Position) : Nat := (p.beat - 1) * 96 + p.pulse

/-- Position `p` is earlier than `q`: bar first, then beat, then pulse. -/
def Position.before (p q : Position) : Bool :=
  decide (p.bar < q.bar ∨ (p.bar = q.bar ∧ (p.beat < q.beat ∨ (p.beat = q.beat ∧ p.pulse < q.pulse))))

/-- The start of the bar after `bar`, wrapping to bar 1 (R16, R17). -/
def barAfter (bar : Nat) : Position :=
  if bar < Config.lastBar then ⟨bar + 1, 1, 0⟩ else ⟨1, 1, 0⟩

/-- One pulse on from `p` in a bar of `m` beats (R16). -/
def Position.advance (m : Nat) (p : Position) : Position :=
  if p.pulse < 95 then { p with pulse := p.pulse + 1 }
  else if p.beat < m then ⟨p.bar, p.beat + 1, 0⟩
  else barAfter p.bar

/-- The last pulse of a bar of `m` beats. -/
def Position.lastOfBar (m : Nat) (p : Position) : Bool := decide (95 ≤ p.pulse) && decide (m ≤ p.beat)

/-- The meter in effect at the generator position: the pending meter at a bar start (R20). -/
def State.meterHere (s : State) : Nat :=
  match s.engine.pendingMeter with
  | some m => if s.gen.position.barStart then m else s.engine.meter
  | none => s.engine.meter

/-- The next bar start at or after the generator position (R20). -/
def State.nextBarStart (s : State) : Position :=
  if s.gen.position.barStart then s.gen.position else barAfter s.gen.position.bar

/-- The next beat start at or after the generator position (R20). -/
def State.nextBeatStart (s : State) : Position :=
  let p := s.gen.position
  if p.pulse = 0 then p
  else if p.beat < s.meterHere then ⟨p.bar, p.beat + 1, 0⟩
  else s.nextBarStart

/-! ### Commands -/

/-- SET_TEMPO's effect and reply, from the leader (R12). -/
def setTempoBody (tempo : BitVec 16) (glide : Byte) (s : State) : State × Answer :=
  let c := clampTempo tempo
  let g := clampGlide glide
  ({ s with engine := s.engine.startTempo c.1 g.1 },
    ⟨takenStatus (c.2 || g.2), toBytes 2 c.1 ++ byte g.1⟩)

/-- SET_TEMPO (R12). -/
def execSetTempo (p : Port) (tempo : BitVec 16) (glide : Byte) (s : State) :
    Host.Outcome State Fault Refusal :=
  take p 0x10 (.setTempo p tempo glide) (asLeader p (setTempoBody tempo glide)) s

/-- NUDGE's effect and reply, from the leader: a shift of 0 is answered OK and changes nothing, not even
a pending slip that a fallen interval has left beyond the clamp (R13, R14). -/
def nudgeBody (delta : BitVec 32) (s : State) : State × Answer :=
  if delta = 0 then (s, ⟨.ok, signedBytes (slipUs s.engine.slip)⟩)
  else
    let r := s.engine.addSlip (delta.toInt * 65536)
    ({ s with engine := r.1 }, ⟨takenStatus r.2, signedBytes (slipUs r.1.slip)⟩)

/-- NUDGE (R14). -/
def execNudge (p : Port) (delta : BitVec 32) (s : State) : Host.Outcome State Fault Refusal :=
  take p 0x11 (.nudge p delta) (asLeader p (nudgeBody delta)) s

/-- SET_METER's effect and reply, from the leader (R18). -/
def setMeterBody (meter : Byte) (s : State) : State × Answer :=
  if 1 ≤ meter.toNat ∧ meter.toNat ≤ 16 then
    ({ s with engine := { s.engine with pendingMeter := some meter.toNat } },
      ⟨.ok, byte s.engine.meter ++ byte meter.toNat⟩)
  else refusal s .range

/-- SET_METER (R18). -/
def execSetMeter (p : Port) (meter : Byte) (s : State) : Host.Outcome State Fault Refusal :=
  take p 0x12 (.setMeter p meter) (asLeader p (setMeterBody meter)) s

end Sys2Proof.Machine
end

