-- ==== Sys2Proof/Machine/Lanes.lean ====
section
/-! DEFINITION. Lanes and claims (chapter 8): the lane driver's operations, the meanings of the claim
commands, SET_LANE, MUTE, UNMUTE and READ_LANE, and of the events LANE_PROCESSING, PULSE_END and
RUN_END. -/

namespace Sys2Proof.Machine

/-! ### The claims table -/

/-- The numbers first to first + count - 1 lie within 0 to size - 1, and count is not 0 (R143, R144). -/
def rangeOk (size : Nat) (first count : Byte) : Bool :=
  decide (first.toNat < size) && decide (count.toNat ≠ 0)
    && decide (first.toNat + count.toNat ≤ size)

/-- Number `n` is in the range first to first + count - 1. -/
def inRange (first count : Byte) (n : Nat) : Bool :=
  decide (first.toNat ≤ n) && decide (n < first.toNat + count.toNat)

/-- Another port than `p` holds the entry. -/
def heldByOther (p : Port) (h : Option Port) : Bool :=
  match h with
  | some q => decide (q ≠ p)
  | none => false

/-- CLAIM_LANES's effect and reply (R143). The reply gives the range as its first number and its count, one byte
each: the spec lays out no range (log entry 7). -/
def claimLanesBody (p : Port) (first count : Byte) (s : State) : State × Answer :=
  if rangeOk 16 first count then
    match lanesAll.find? (fun l => inRange first count l.val && heldByOther p (s.laneHolder l)) with
    | some l => (s, ⟨.held, byte l.val ++ byte (portCode (s.laneHolder l))⟩)
    | none =>
      let already := lanesAll.all fun l =>
        !inRange first count l.val || decide (s.laneHolder l = some p)
      let s' := { s with
        laneClaims := Vector.ofFn fun l =>
          if inRange first count l.val then some p else s.laneHolder l }
      (s', ⟨if already then .already else .ok,
        [first, count] ++ toBytes 2 (s'.heldLanes p).toNat⟩)
  else refusal s .range

/-- CLAIM_LANES (R143). -/
def execClaimLanes (p : Port) (first count : Byte) (s : State) : Host.Outcome State Fault Refusal :=
  take p 0x50 (.claimLanes p first count) (claimLanesBody p first count) s

/-- RELEASE_LANES's effect and reply (R143). -/
def releaseLanesBody (p : Port) (first count : Byte) (s : State) : State × Answer :=
  if rangeOk 16 first count then
    let held := lanesAll.any fun l => inRange first count l.val && decide (s.laneHolder l = some p)
    let s' := { s with
      laneClaims := Vector.ofFn fun l =>
        if inRange first count l.val ∧ s.laneHolder l = some p then none else s.laneHolder l }
    (s', ⟨if held then .ok else .already, toBytes 2 (s'.heldLanes p).toNat⟩)
  else refusal s .range

/-- RELEASE_LANES (R143). -/
def execReleaseLanes (p : Port) (first count : Byte) (s : State) :
    Host.Outcome State Fault Refusal :=
  take p 0x51 (.releaseLanes p first count) (releaseLanesBody p first count) s

/-- CLAIM_PLAYER's effect and reply (R144). The reply gives the range as CLAIM_LANES's does (log entry 7). -/
def claimPlayerBody (p : Port) (first count : Byte) (s : State) : State × Answer :=
  if rangeOk 4 first count then
    match fourAll.find? (fun i => inRange first count i.val && heldByOther p (s.playerHolder i)) with
    | some i => (s, ⟨.held, byte i.val ++ byte (portCode (s.playerHolder i))⟩)
    | none =>
      let already := fourAll.all fun i =>
        !inRange first count i.val || decide (s.playerHolder i = some p)
      let s' := { s with
        playerClaims := Vector.ofFn fun i =>
          if inRange first count i.val then some p else s.playerHolder i }
      (s', ⟨if already then .already else .ok,
        [first, count] ++ toBytes 1 (s'.heldPlayers p).toNat⟩)
  else refusal s .range

/-- CLAIM_PLAYER (R144). -/
def execClaimPlayer (p : Port) (first count : Byte) (s : State) :
    Host.Outcome State Fault Refusal :=
  take p 0x52 (.claimPlayer p first count) (claimPlayerBody p first count) s

/-- RELEASE_PLAYER's effect and reply (R144). -/
def releasePlayerBody (p : Port) (first count : Byte) (s : State) : State × Answer :=
  if rangeOk 4 first count then
    let held := fourAll.any fun i => inRange first count i.val && decide (s.playerHolder i = some p)
    let s' := { s with
      playerClaims := Vector.ofFn fun i =>
        if inRange first count i.val ∧ s.playerHolder i = some p then none else s.playerHolder i }
    (s', ⟨if held then .ok else .already, toBytes 1 (s'.heldPlayers p).toNat⟩)
  else refusal s .range

/-- RELEASE_PLAYER (R144). -/
def execReleasePlayer (p : Port) (first count : Byte) (s : State) :
    Host.Outcome State Fault Refusal :=
  take p 0x53 (.releasePlayer p first count) (releasePlayerBody p first count) s

/-- Every claim of a closing port is released; lanes and players keep everything else (R145, R140). -/
def State.releaseClaims (s : State) (p : Port) : State :=
  { s with
    laneClaims := Vector.ofFn fun l => if s.laneHolder l = some p then none else s.laneHolder l
    playerClaims := Vector.ofFn fun i => if s.playerHolder i = some p then none else s.playerHolder i }

/-! ### The lane driver -/

/-- The house time at which a lane of offset `o` processes a record: R + o (R153). -/
def playTime (r : PulseRecord) (o : Int) : Time := shifted r.refTime o

/-- The record of the queue with a pulse number (R52). -/
def recordAt (q : List PulseRecord) (n : PulseNumber) : Option PulseRecord :=
  q.find? fun r => decide (r.pulse = n)

/-- The queue from the record with a pulse number on. -/
def recordsFrom (q : List PulseRecord) (n : PulseNumber) : List PulseRecord :=
  q.dropWhile fun r => decide (r.pulse ≠ n)

/-- The cursor that names the first record of a list, or the next record to be generated (R52). -/
def cursorOn : List PulseRecord → Cursor
  | r :: _ => .at r.pulse
  | [] => .next

/-- The record's lane-change entry for lane `i` is applied (R151). -/
def Lane.applyEntry (i : Fin 16) (r : PulseRecord) (l : Lane) : Lane :=
  match r.laneChanges.find? (fun c => decide (c.lane = i)) with
  | some c => { l with mute := c.value }
  | none => l

/-- The run flag is set in RUN mode at a launch marker (R159). -/
def Lane.launchFlag (r : PulseRecord) (l : Lane) : Lane :=
  if l.settings.mode = .run ∧ r.markers.launch then { l with runFlag := true } else l

/-- The lane takes note of the last marker of record `r` at house time `now` (R160). A run end already past
becomes absent (log entry 29). -/
def Lane.noteLast (now : Time) (r : PulseRecord) (l : Lane) : Lane :=
  if l.settings.mode = .run ∧ l.runFlag then
    let e := shifted r.refTime (l.settings.offset + ((r.interval / 65536 : Nat) : Int))
    if e.toNat ≤ now.toNat then { l with runFlag := false, output := .inactive, runEnd := none }
    else { l with runEnd := some e }
  else l

/-- What processing and passing over a record have in common (R153, R154): the lane-change entry, the
run flag at a launch marker, and the last marker (log entry 18). -/
def Lane.meet (i : Fin 16) (now : Time) (r : PulseRecord) (l : Lane) : Lane :=
  let l := (l.applyEntry i r).launchFlag r
  if r.markers.last then l.noteLast now r else l

/-- A pulse of width `w` is begun at `now` (R156). -/
def Lane.beginPulse (now : Time) (w : Nat) (l : Lane) : Lane :=
  let e := later now w
  { l with
    output := .active
    pulseEnd := some (match l.pulseEnd with
      | some e' => if e.toNat ≤ e'.toNat then e' else e
      | none => e) }

/-- The index of a record for a CLOCK lane (R157). -/
def Lane.clockIndex (l : Lane) (r : PulseRecord) : Nat :=
  match l.settings.base with
  | .bar => r.position.index
  | .launch => (r.pulse - l.launchRef).toNat

/-- The width of a CLOCK lane's pulse at a record (R157). -/
def Lane.clockPulseWidth (l : Lane) (r : PulseRecord) : Nat :=
  min l.settings.clockWidth (l.settings.divisor * r.interval / 131072)

/-- A CLOCK lane calls for a pulse at a record: (index - phase) mod d is 0 (R157). -/
def Lane.clockCalls (l : Lane) (r : PulseRecord) : Bool :=
  decide (((l.clockIndex r : Int) - (l.settings.phase : Int)) % (l.settings.divisor : Int) = 0)

/-- The level a GATE lane reads in a record: that of its source plane in its source player's entry, 0
where there is no entry (R158). -/
def Lane.gateLevel (l : Lane) (r : PulseRecord) : Level :=
  match r.steps.find? (fun e => decide (e.player = l.settings.srcPlayer)) with
  | some e => e.levels[l.settings.srcPlane]
  | none => 0

/-- The gate width of a level 1, 2 or 3 (R158). -/
def LaneSettings.gateWidth (g : LaneSettings) (v : Level) : Nat :=
  if v = 1 then g.soft else if v = 2 then g.normal else g.accent

/-- The width of a GATE lane's pulse for a level, clamped for a step length (R158). -/
def Lane.gatePulseWidth (l : Lane) (r : PulseRecord) (stepLength : Nat) (v : Level) : Nat :=
  min (l.settings.gateWidth v) (stepLength * r.interval / 65536 - 500)

/-- The emission at a record under the lane's mode and mute state (section 8.5, log entry 20). -/
def Lane.emit (now : Time) (stepLength : Nat) (r : PulseRecord) (l : Lane) : Lane :=
  match l.settings.mode with
  | .off => l
  | .clock =>
    if l.mute = .unmuted ∧ l.clockCalls r then l.beginPulse now (l.clockPulseWidth r) else l
  | .gate =>
    if l.mute = .unmuted ∧ l.gateLevel r ≠ 0 then
      l.beginPulse now (l.gatePulseWidth r stepLength (l.gateLevel r))
    else l
  | .run =>
    if l.runFlag then
      { l with output := if l.mute = .unmuted then .active else .inactive }
    else l

/-- A lane that comes from OFF is not seated on record `r` at `now`: its R + o has come (R152), or the lane
enters RUN mode and `r` is the launch record, after which R155 seats it (log entry 30). -/
def Lane.seatsBeyond (now : Time) (l : Lane) (r : PulseRecord) : Bool :=
  decide ((playTime r l.settings.offset).toNat ≤ now.toNat)
    || (decide (l.settings.mode = .run) && r.markers.launch)

/-- Lane `i` seats its cursor at `now`, its settings already the new ones (R152, R154, R155). -/
def Lane.seat (i : Fin 16) (now : Time) (q : List PulseRecord) (l : Lane) : Lane :=
  let waits := fun r => decide ((playTime r l.settings.offset).toNat ≤ now.toNat)
  match l.cursor with
  | none => { l with cursor := some (cursorOn (q.dropWhile (l.seatsBeyond now))) }
  | some .next => l
  | some (.at n) =>
    let ahead := recordsFrom q n
    match ahead.takeWhile waits with
    | [] => l
    | passed =>
      { passed.foldl (fun l r => l.meet i now r) l with
        cursor := some (cursorOn (ahead.dropWhile waits)) }

/-- The lane leaves RUN mode (R155, log entry 19). -/
def Lane.leaveRun (l : Lane) : Lane :=
  { l with
    runFlag := false
    runEnd := none
    output := if l.pulseEnd.isSome then l.output else .inactive }

/-- The lane goes OFF (R155). -/
def Lane.goOff (l : Lane) : Lane :=
  { l with
    cursor := none, pulseEnd := none, output := .inactive, runFlag := false, runEnd := none }

/-- The whole settings record of lane `i` is replaced (R147, R152, R155). -/
def Lane.configure (i : Fin 16) (now : Time) (q : List PulseRecord) (g : LaneSettings) (l : Lane) :
    Lane :=
  let old := l.settings
  let l := { l with settings := g }
  if g.mode = .off then
    if old.mode = .off then l else l.goOff
  else
    let l :=
      if old.mode = .run ∧ g.mode ≠ .run then l.leaveRun
      else if old.mode ≠ .run ∧ g.mode = .run then { l with runFlag := false, runEnd := none }
      else l
    if old.mode = .off ∨ old.offset ≠ g.offset then l.seat i now q else l

/-- The settings record a SET_LANE carries, its widths and offset not yet in range; none is RANGE
(R147, check 4). -/
def readLaneSettings (r : RawLaneSettings) : Option LaneSettings := do
  let mode ← readLaneMode r.mode
  let base ← readCountBase r.base
  let polarity ← readPolarity r.polarity
  let player ← readFour r.srcPlayer
  let plane ← readPlane r.srcPlane
  if 1 ≤ r.divisor.toNat ∧ r.divisor.toNat ≤ 384 ∧ r.phase.toNat < r.divisor.toNat then
    some {
      mode := mode, divisor := r.divisor.toNat, phase := r.phase.toNat, base := base
      clockWidth := r.clockWidth.toNat, soft := r.soft.toNat, normal := r.normal.toNat
      accent := r.accent.toNat, srcPlayer := player, srcPlane := plane
      offset := r.offset.toInt, polarity := polarity }
  else none

/-- The widths and the offset of a settings record brought into range, and whether any clamp was needed
(R149). -/
def LaneSettings.clamped (g : LaneSettings) (horizonUs : Nat) : LaneSettings × Bool :=
  let width := clampNat 1 Config.widthMax
  let off := clampInt (-(horizonUs : Int)) (Config.offsetMax : Int) g.offset
  ({ g with
      clockWidth := (width g.clockWidth).1, soft := (width g.soft).1
      normal := (width g.normal).1, accent := (width g.accent).1, offset := off.1 },
    (width g.clockWidth).2 || (width g.soft).2 || (width g.normal).2 || (width g.accent).2 || off.2)

/-- The seven fields of the lock are the same (R148). -/
def LaneSettings.sameLocked (g h : LaneSettings) : Bool :=
  decide (g.mode = h.mode) && decide (g.divisor = h.divisor) && decide (g.phase = h.phase)
    && decide (g.base = h.base)
    && (decide (g.srcPlayer = h.srcPlayer) && decide (g.srcPlane = h.srcPlane))
    && decide (g.offset = h.offset) && decide (g.polarity = h.polarity)

/-- A lane is locked: the transport is not STOPPED, and the lane is neither OFF nor MUTED (R148). -/
def State.laneLocked (s : State) (l : Fin 16) : Bool :=
  decide (s.transport.state ≠ .stopped) && decide ((s.lane l).settings.mode ≠ .off)
    && decide ((s.lane l).mute = .unmuted)

/-- SET_LANE's effect and reply (R147). -/
def setLaneBody (p : Port) (lane : Byte) (r : RawLaneSettings) (s : State) : State × Answer :=
  match readLaneNumber lane with
  | none => refusal s .range
  | some l =>
    if s.laneHolder l = some p then
      match readLaneSettings r with
      | none => refusal s .range
      | some g =>
        if s.laneLocked l && !g.sameLocked (s.lane l).settings then refusal s .locked
        else
          let c := g.clamped s.horizonUs
          (s.setLane l ((s.lane l).configure l s.houseTime s.queue c.1),
            ⟨takenStatus c.2, c.1.bytes⟩)
    else refusal s .notHeld

/-- SET_LANE (R147). -/
def execSetLane (p : Port) (lane : Byte) (r : RawLaneSettings) (s : State) :
    Host.Outcome State Fault Refusal :=
  take p 0x54 (.setLane p lane r) (setLaneBody p lane r) s

/-- The lanes of a set take a mute state, whatever their mode (R150). -/
def State.setMutes (s : State) (lanes : BitVec 16) (m : Mute) : State :=
  { s with lanes := Vector.ofFn fun l =>
    if lanes.getLsbD l.val then { s.lane l with mute := m } else s.lane l }

/-- Every lane of the set has the mute state. -/
def State.allMuted (s : State) (lanes : BitVec 16) (m : Mute) : Bool :=
  lanesAll.all fun l => !lanes.getLsbD l.val || decide ((s.lane l).mute = m)

/-- The effect and reply of MUTE and UNMUTE (R150). -/
def muteBody (p : Port) (lanes : BitVec 16) (m : Mute) (s : State) : State × Answer :=
  if lanes = 0 then refusal s .range
  else if s.holdsLanes p lanes then
    let s' := s.setMutes lanes m
    (s', ⟨if s.allMuted lanes m then .already else .ok, toBytes 2 (s'.mutedLanes p).toNat⟩)
  else refusal s .notHeld

/-- MUTE (R150). -/
def execMute (p : Port) (lanes : BitVec 16) (s : State) : Host.Outcome State Fault Refusal :=
  take p 0x55 (.mute p lanes) (muteBody p lanes .muted) s

/-- UNMUTE (R150). -/
def execUnmute (p : Port) (lanes : BitVec 16) (s : State) : Host.Outcome State Fault Refusal :=
  take p 0x56 (.unmute p lanes) (muteBody p lanes .unmuted) s

/-- A cursor as READ_LANE reports it: a mark, 0 for a record and 1 for the next record to be generated,
and the record's pulse number (R161, log entry 7). -/
def Cursor.bytes : Cursor → List Byte
  | .at n => byte 0 ++ toBytes 4 n.toNat
  | .next => byte 1 ++ List.replicate 4 0

/-- READ_LANE's reply (R161). -/
def readLaneBody (lane : Byte) (s : State) : State × Answer :=
  match readLaneNumber lane with
  | none => refusal s .range
  | some l =>
    let d := s.lane l
    (s, ⟨.ok,
      [lane] ++ byte (portCode (s.laneHolder l)) ++ d.settings.bytes ++ byte d.mute.code
        ++ presence [d.cursor.isSome, d.pulseEnd.isSome, d.runEnd.isSome]
        ++ optionBytes 5 Cursor.bytes d.cursor ++ byte d.output.code
        ++ optionBytes 4 (fun t => toBytes 4 (s.until t)) d.pulseEnd ++ flagByte d.runFlag
        ++ optionBytes 8 timeBytes d.runEnd ++ toBytes 4 d.launchRef.toNat⟩)

/-- READ_LANE (R161). -/
def execReadLane (p : Port) (lane : Byte) (s : State) : Host.Outcome State Fault Refusal :=
  take p 0x57 (.readLane p lane) (readLaneBody lane) s

/-! ### What other blocks bring about in the lanes -/

/-- SET_HORIZON raises every offset below the new -H, whatever the lane's mode and holder (R149). -/
def State.raiseOffsets (s : State) : State :=
  { s with lanes := Vector.ofFn fun i =>
    let l := s.lane i
    if l.settings.offset < -(s.horizonUs : Int) then
      let l' := { l with settings := { l.settings with offset := -(s.horizonUs : Int) } }
      if l.settings.mode = .off then l' else l'.seat i s.houseTime s.queue
    else l }

/-- The queue tells every lane that has already processed the marked record `r` of its last marker: the
lanes whose cursor names the next record to be generated (R47, R160, log entry 16). -/
def State.tellLast (s : State) (r : PulseRecord) : State :=
  { s with lanes := Vector.ofFn fun i =>
    let l := s.lane i
    if l.cursor = some .next then l.noteLast s.houseTime r else l }

/-- A record is appended: every cursor that names the next record to be generated comes to name it
(R52). At a launch every lane that is not OFF is seated on it, and every lane takes its pulse number as
launch reference (R28, R146, R155). -/
def Lane.onAppend (launch : Bool) (n : PulseNumber) (l : Lane) : Lane :=
  let l := if l.cursor = some .next then { l with cursor := some (.at n) } else l
  if launch then
    { l with
      launchRef := n
      cursor := if l.settings.mode = .off then l.cursor else some (.at n) }
  else l

/-! ### Events of a lane -/

/-- The record that lane `l` is due to process: the one its cursor names, if it is in the queue and house
time has reached its R + o (R153). -/
def State.laneRecord (s : State) (l : Fin 16) : Option PulseRecord :=
  match (s.lane l).cursor with
  | some (.at n) =>
    match recordAt s.queue n with
    | some r => if s.reached (playTime r (s.lane l).settings.offset) then some r else none
    | none => none
  | _ => none

/-- Lane `l` processes record `r` (R153): what it meets in it, its emission, and the move of its
cursor. -/
def State.process (s : State) (l : Fin 16) (r : PulseRecord) : State :=
  let d := (s.lane l).meet l s.houseTime r
  let d := d.emit s.houseTime (s.player d.settings.srcPlayer).stepLength r
  s.setLane l { d with cursor := some (cursorOn ((recordsFrom s.queue r.pulse).drop 1)) }

/-- LANE_PROCESSING (R153). With no record due for the lane, nothing happens. -/
def execLaneProcessing (l : Fin 16) (s : State) : Host.Outcome State Fault Refusal :=
  match s.laneRecord l with
  | some r => .next (s.process l r)
  | none => .next s

/-- A lane's output after its pulse end (R156). -/
def Lane.endPulse (l : Lane) : Lane :=
  { l with
    pulseEnd := none
    output :=
      if l.settings.mode = .run ∧ l.runFlag ∧ l.mute = .unmuted then .active else .inactive }

/-- PULSE_END (R156). -/
def execPulseEnd (l : Fin 16) (s : State) : Host.Outcome State Fault Refusal :=
  if s.due (s.lane l).pulseEnd then .next (s.setLane l (s.lane l).endPulse) else .next s

/-- A RUN lane after its run end, which becomes absent (R159, R160, log entry 29). -/
def Lane.endRun (l : Lane) : Lane := { l with runFlag := false, output := .inactive, runEnd := none }

/-- RUN_END (R160). -/
def execRunEnd (l : Fin 16) (s : State) : Host.Outcome State Fault Refusal :=
  if s.due (s.lane l).runEnd then .next (s.setLane l (s.lane l).endRun) else .next s

end Sys2Proof.Machine
end

