-- ==== Sys2Proof/Machine/Players.lean ====
section
/-! DEFINITION. Players (sections 7.4 and 7.5): how a player moves at a record, where it is placed, the
loads, and the commands LOAD_ROW, HALF_LOAD, SET_STEP_LENGTH and READ_PLAYER. -/

namespace Sys2Proof.Machine

/-- The half that holds a step (section 7.4). -/
def halfOf (step : Nat) : Half := if step < 32 then .lower else .upper

/-- The other half. -/
def Half.other : Half → Half
  | .lower => .upper
  | .upper => .lower

/-- The first step of a half. -/
def Half.start : Half → Nat
  | .lower => 0
  | .upper => 32

/-- The source row of a half. -/
def Player.source (pl : Player) : Half → Nat
  | .lower => pl.sourceLower
  | .upper => pl.sourceUpper

/-- The eight levels of a step of the play register. -/
def Player.levels (pl : Player) (step : Nat) : Levels := levelsAt pl.register (step * cellsPerStep)

/-! ### Moving -/

/-- At a bar start a pending step length becomes the step length (R131). -/
def Player.takeLength (pl : Player) : Player :=
  match pl.pendingLength with
  | some l => { pl with stepLength := l, pendingLength := none }
  | none => pl

/-- The cursor goes to the first step of a half, or, with a half tap pending for that half, to the tap's
step, and the tap becomes absent (R132). -/
def Player.enterHalf (pl : Player) (h : Half) : Player :=
  match pl.halfTap with
  | some (h', t) =>
    if h' = h then { pl with cursor := h.start + t, halfTap := none }
    else { pl with cursor := h.start }
  | none => { pl with cursor := h.start }

/-- The move of the cursor at a step start other than the launch record (R132). -/
def Player.move (pl : Player) : Player :=
  match pl.rowJump with
  | some j => { pl with cursor := j, rowJump := none }
  | none =>
    if pl.cursor = 31 then pl.enterHalf .upper
    else if pl.cursor = 63 then pl.enterHalf .lower
    else { pl with cursor := pl.cursor + 1 }

/-- The cursor is placed at the home step, or at the tap pending for the half that holds the home step
(R133). -/
def Player.goHome (pl : Player) : Player :=
  match pl.halfTap with
  | some (h, t) =>
    if h = halfOf pl.home then { pl with cursor := h.start + t, halfTap := none }
    else { pl with cursor := pl.home }
  | none => { pl with cursor := pl.home }

/-- At the reaching of a stop point a pending row jump is applied (R133). -/
def Player.stopPlace (pl : Player) : Player :=
  if pl.primed then
    match pl.rowJump with
    | some j => { pl with cursor := j, rowJump := none }
    | none => pl
  else pl

/-- What a player does at a record: its state after, whether it begins a step, and whether it crossed
into the other half at a step start of R132 (R131, R132, R133, R134). -/
def Player.atRecord (launch barStart : Bool) (index : Nat) (pl : Player) : Player × Bool × Bool :=
  let pl := if barStart then pl.takeLength else pl
  if pl.primed && (launch || decide (index % pl.stepLength = 0)) then
    if launch then ({ pl.goHome with rowJump := none }, true, false)
    else (pl.move, true, decide (halfOf pl.move.cursor ≠ halfOf pl.cursor))
  else (pl, false, false)

/-- Each primed player goes to its home step at GRID_RESET (R36, R133). -/
def State.playersHome (s : State) : State :=
  { s with players := Vector.ofFn fun i =>
    if (s.player i).primed then (s.player i).goHome else s.player i }

/-- Each primed player applies a pending row jump where a stop point is reached (R133). -/
def State.playersStop (s : State) : State :=
  { s with players := Vector.ofFn fun i => (s.player i).stopPlace }

/-! ### Loading -/

/-- A row is loaded into a player (R135). `making` says that records are being made, or that the load is
a cue's at a step (R136). -/
def Player.loadRow (pl : Player) (mem : List Host.Cell) (row tap : Nat) (making : Bool) : Player :=
  { pl with
    primed := true
    register := Memory.window mem (cellAddress row 0 0) cellsPerRow 0
    sourceLower := row
    sourceUpper := row
    home := tap
    halfTap := none
    cursor := if making && pl.primed then pl.cursor else tap
    rowJump := if making then some tap else none }

/-- The half of a row is loaded into the half that does not hold the cursor (R137). -/
def Player.loadHalf (pl : Player) (mem : List Host.Cell) (row tap : Nat) : Player :=
  match (halfOf pl.cursor).other with
  | .lower =>
    { pl with
      register := Memory.window mem (cellAddress row 0 0) cellsPerHalf 0
        ++ Memory.window pl.register cellsPerHalf cellsPerHalf cellsPerHalf
      sourceLower := row
      halfTap := some (.lower, tap) }
  | .upper =>
    { pl with
      register := Memory.window pl.register 0 cellsPerHalf 0
        ++ Memory.window mem (cellAddress row 32 0) cellsPerHalf cellsPerHalf
      sourceUpper := row
      halfTap := some (.upper, tap) }

/-- Checks 3 and 4 of R130: the identifiers are in range, and port `p` holds the player. -/
def withPlayer (p : Port) (player : Byte) (inBounds : Bool) (body : Fin 4 → State → State × Answer)
    (s : State) : State × Answer :=
  match readFour player with
  | none => refusal s .range
  | some i =>
    if inBounds then
      if s.playerHolder i = some p then body i s else refusal s .notHeld
    else refusal s .range

/-- LOAD_ROW's effect and reply, the checks of R130 passed (R135). -/
def loadRowBody (row tap : Nat) (i : Fin 4) (s : State) : State × Answer :=
  let pl := (s.player i).loadRow s.patternMem row tap s.making
  (s.setPlayer i pl, ⟨.ok, byte i.val ++ byte row ++ byte tap ++ flagByte pl.rowJump.isSome⟩)

/-- LOAD_ROW (R130, R135). -/
def execLoadRow (p : Port) (player row tap : Byte) (s : State) : Host.Outcome State Fault Refusal :=
  take p 0x48 (.loadRow p player row tap)
    (afterClear (withPlayer p player (decide (row.toNat ≤ 127 ∧ tap.toNat ≤ 63))
      (loadRowBody row.toNat tap.toNat))) s

/-- HALF_LOAD's effect and reply, the checks of R130 passed (R137). -/
def halfLoadBody (row tap : Nat) (i : Fin 4) (s : State) : State × Answer :=
  let pl := s.player i
  if pl.primed then
    if pl.rowJump.isSome then refusal s .busy
    else
      (s.setPlayer i (pl.loadHalf s.patternMem row tap),
        ⟨.ok, byte i.val ++ byte (halfOf pl.cursor).other.code ++ byte row ++ byte tap⟩)
  else refusal s .notPrimed

/-- HALF_LOAD (R130, R137). -/
def execHalfLoad (p : Port) (player row tap : Byte) (s : State) : Host.Outcome State Fault Refusal :=
  take p 0x49 (.halfLoad p player row tap)
    (afterClear (withPlayer p player (decide (row.toNat ≤ 127 ∧ tap.toNat ≤ 31))
      (halfLoadBody row.toNat tap.toNat))) s

/-- SET_STEP_LENGTH's effect and reply, the checks of R130 passed (R139); a step length is one byte on the
wire (log entry 28). -/
def setStepLengthBody (length : Nat) (i : Fin 4) (s : State) : State × Answer :=
  let c := clampNat 1 96 length
  (s.setPlayer i { s.player i with pendingLength := some c.1 },
    ⟨takenStatus c.2, byte (s.player i).stepLength ++ byte c.1⟩)

/-- SET_STEP_LENGTH (R130, R139). -/
def execSetStepLength (p : Port) (player length : Byte) (s : State) :
    Host.Outcome State Fault Refusal :=
  take p 0x4A (.setStepLength p player length)
    (afterClear (withPlayer p player true (setStepLengthBody length.toNat))) s

/-- The 64 steps of a play register, step 0 first (R141). -/
def Player.registerBytes (pl : Player) : List Byte :=
  (List.range 64).flatMap fun step => levelsBytes (pl.levels step)

/-- READ_PLAYER's reply (R141, log entries 7 and 28). -/
def readPlayerBody (player withRegister : Byte) (s : State) : State × Answer :=
  match readFour player, readFlag withRegister with
  | some i, some whole =>
    let pl := s.player i
    (s, ⟨.ok,
      [player] ++ byte (if pl.primed then 1 else 0) ++ byte (portCode (s.playerHolder i))
        ++ byte pl.cursor ++ byte pl.home ++ byte pl.stepLength
        ++ presence [pl.pendingLength.isSome, pl.halfTap.isSome, pl.rowJump.isSome, whole]
        ++ optionBytes 1 byte pl.pendingLength
        ++ optionBytes 2 (fun h : Half × Nat => byte h.1.code ++ byte h.2) pl.halfTap
        ++ optionBytes 1 byte pl.rowJump ++ byte pl.sourceLower ++ byte pl.sourceUpper
        ++ optionBytes 128 Player.registerBytes (if whole then some pl else none)⟩)
  | _, _ => refusal s .range

/-- READ_PLAYER (R141). -/
def execReadPlayer (p : Port) (player withRegister : Byte) (s : State) :
    Host.Outcome State Fault Refusal :=
  take p 0x4B (.readPlayer p player withRegister)
    (afterClear (readPlayerBody player withRegister)) s

end Sys2Proof.Machine
end

