-- ==== Sys2Proof/Machine/Cues.lean ====
section
/-! DEFINITION. Cues (chapter 6): the pool and its order, triggers, firing, the carry and the relocation
drop, and the commands SET_ALLOCATION, SCHEDULE_CUE, CANCEL_CUE and READ_CUES. -/

namespace Sys2Proof.Machine

/-! ### The pool -/

/-- The lowest-numbered empty slot (R98). -/
def freeSlot (cues : List Cue) : Option Nat :=
  (List.range Config.cuePool).find? fun n => cues.all fun c => decide (c.id ≠ n)

/-- A cue is taken into the pool order, after every cue of the same or an earlier fire position (R106). -/
def insertCue (c : Cue) : List Cue → List Cue
  | [] => [c]
  | d :: ds => if c.fire.before d.fire then c :: d :: ds else d :: insertCue c ds

/-- The allocations of the four ports, summed (R99). -/
def State.allocated (s : State) : Nat := (Port.all.map s.allocation).sum

/-- The unallocated remainder (R99). -/
def State.unallocated (s : State) : Nat := Config.cuePool - s.allocated

/-- The carry of R107: the cues whose fire position lies in bar `bar` beyond beat `m` move to the next
bar start (log entry 14). -/
def carryCues (bar m : Nat) (cues : List Cue) : List Cue :=
  cues.map fun c =>
    if c.fire.bar = bar ∧ m < c.fire.beat then { c with fire := barAfter bar, carried := true } else c

/-- Every cue in the pool is dropped with reason RELOCATED, in pool order (R117, log entry 13). -/
def State.dropAllCues (s : State) : State :=
  let s' := s.cues.foldl
    (fun s c => s.post c.owner (.cueDropped c.id c.tag c.action.kind .relocated c.fire)) s
  { s' with cues := [] }

/-- A closing port's cues leave the pool without notice; its allocation is kept (R118). -/
def State.removeCues (s : State) (p : Port) : State :=
  { s with cues := s.cues.filter fun c => decide (c.owner ≠ p) }

/-! ### Commands -/

/-- SET_ALLOCATION's figures: the port's allocation, the cues it holds and the remainder (R100). The remainder is
one byte, as section 9.6 gives the other two: no table gives its width (log entry 7). -/
def allocationAnswer (p : Port) (s : State) (st : Status) : Answer :=
  ⟨st, byte (s.allocation p) ++ byte (s.cueCount p) ++ byte s.unallocated⟩

/-- SET_ALLOCATION's effect and reply (R100). -/
def setAllocationBody (p : Port) (n : Byte) (s : State) : State × Answer :=
  if n.toNat < s.cueCount p then (s, allocationAnswer p s .inUse)
  else if Config.cuePool < s.allocated - s.allocation p + n.toNat then
    (s, allocationAnswer p s .noRoom)
  else
    let s' := s.setAllocation p n.toNat
    (s', allocationAnswer p s' .ok)

/-- SET_ALLOCATION (R100). -/
def execSetAllocation (p : Port) (n : Byte) (s : State) : Host.Outcome State Fault Refusal :=
  take p 0x38 (.setAllocation p n) (setAllocationBody p n) s

/-- The right a cue's action needs besides leadership, when it is scheduled (R103, R104 check 3). -/
def State.scheduleRight (s : State) (p : Port) : CueAction → Bool
  | .mute lanes => s.holdsLanes p lanes
  | .unmute lanes => s.holdsLanes p lanes
  | .loadRow i _ _ => decide (s.playerHolder i = some p)
  | .halfLoad i _ _ => decide (s.playerHolder i = some p)
  | .tempo .. | .meter _ | .stop | .mark => true

/-- The actions that are refused BUSY while the pattern memory's clear runs (R104 check 4). -/
def CueAction.needsPatterns : CueAction → Bool
  | .loadRow .. | .halfLoad .. => true
  | .mute _ | .unmute _ | .tempo .. | .meter _ | .stop | .mark => false

/-- The smallest bar at or above `b` whose number less one is a multiple of `k` (R102). -/
def phraseBar (k b : Nat) : Nat := (b - 1 + (k - 1)) / k * k + 1

/-- A trigger resolved against the generator position; none is PAST (R102). -/
def State.resolve (s : State) : Trigger → Option Position
  | .at p => some p
  | .nextBeat => if s.nextBeatStart.before s.gen.position then none else some s.nextBeatStart
  | .nextBar => if s.nextBarStart.before s.gen.position then none else some s.nextBarStart
  | .nextPhrase k =>
    let b := phraseBar k (if s.gen.position.barStart then s.gen.position.bar
      else s.gen.position.bar + 1)
    if b ≤ Config.lastBar then some ⟨b, 1, 0⟩ else none

/-- The fire position and late flag a trigger gets under a late policy; none is PAST (R105). -/
def State.place (s : State) (t : Trigger) (policy : LatePolicy) : Option (Position × Bool) :=
  match s.resolve t with
  | none => none
  | some q =>
    if q.before s.gen.position then
      match policy with
      | .drop => none
      | .fire => some (s.gen.position, true)
    else some (q, false)

/-- SCHEDULE_CUE's effect and reply (R104, R105). -/
def scheduleCueBody (p : Port) (r : RawCue) (s : State) : State × Answer :=
  match readActionKind r.action with
  | none => refusal s .range
  | some kind =>
    if kind.leaderOnly && !s.leads p then refusal s .notLeader
    else
      match readTrigger r, readPolicy r.policy, readAction kind r.arguments with
      | some trigger, some policy, some (action, clamped) =>
        if !s.scheduleRight p action then refusal s .notHeld
        else if s.clearing && action.needsPatterns then refusal s .busy
        else if s.cueCount p = s.allocation p then refusal s .noRoom
        else
          match s.place trigger policy, freeSlot s.cues with
          | some (fire, late), some id =>
            let c : Cue :=
              { id := id, owner := p, tag := r.tag, trigger := trigger, fire := fire
                action := action, policy := policy, late := late, carried := false }
            ({ s with cues := insertCue c s.cues },
              ⟨takenStatus clamped,
                byte id ++ toBytes 2 r.tag.toNat ++ positionBytes fire ++ flagByte late⟩)
          | none, _ => refusal s .past
          | some _, none => refusal s .noRoom
      | _, _, _ => refusal s .range

/-- SCHEDULE_CUE (R104). -/
def execScheduleCue (p : Port) (cue : RawCue) (s : State) : Host.Outcome State Fault Refusal :=
  take p 0x39 (.scheduleCue p cue) (scheduleCueBody p cue) s

/-- CANCEL_CUE's effect and reply (R114). -/
def cancelCueBody (p : Port) (id : Byte) (tag : BitVec 16) (s : State) : State × Answer :=
  if id.toNat ≤ 127 then
    match s.cues.find? (fun c => decide (c.id = id.toNat ∧ c.owner = p ∧ c.tag = tag)) with
    | some c =>
      ({ s with cues := s.cues.filter fun d => decide (d.id ≠ id.toNat) },
        ⟨.ok, [id] ++ toBytes 2 tag.toNat ++ positionBytes c.fire⟩)
    | none => refusal s .tooLate
  else refusal s .range

/-- CANCEL_CUE (R114). -/
def execCancelCue (p : Port) (id : Byte) (tag : BitVec 16) (s : State) :
    Host.Outcome State Fault Refusal :=
  take p 0x3A (.cancelCue p id tag) (cancelCueBody p id tag) s

/-- READ_CUES's reply (R119). -/
def readCuesBody (p : Port) (first : Byte) (s : State) : State × Answer :=
  if first.toNat ≤ 127 then
    let own := s.cues.filter fun c => decide (c.owner = p)
    let page := (own.drop first.toNat).take 16
    (s, ⟨.ok, byte (s.allocation p) ++ byte own.length ++ byte page.length ++ page.flatMap Cue.bytes⟩)
  else refusal s .range

/-- READ_CUES (R119). -/
def execReadCues (p : Port) (first : Byte) (s : State) : Host.Outcome State Fault Refusal :=
  take p 0x3B (.readCues p first) (readCuesBody p first) s

/-! ### Firing -/

/-- The cue firing of one step: the state so far, the lane changes given to each lane, the CUE_FIRED and
CUE_DROPPED notices in the order their cues fired, and whether a STOP cue has set the stop point. -/
structure Firing where
  state   : State
  changes : Vector (Option Mute) 16
  given   : List (Port × NoticeBody)
  stop    : Bool
  deriving DecidableEq, Repr

/-- The cue `c` leaves the pool (R108). -/
def Firing.remove (f : Firing) (c : Cue) : Firing :=
  { f with state := { f.state with cues := f.state.cues.filter fun d => decide (d.id ≠ c.id) } }

/-- The cue `c` is dropped with a reason (R113). -/
def Firing.drop (f : Firing) (c : Cue) (reason : DropReason) : Firing :=
  { f with given := f.given
      ++ [(c.owner, .cueDropped c.id c.tag c.action.kind reason c.fire)] }

/-- The cue `c` has taken effect, for the lanes `lanes` where it names lanes (R112). -/
def Firing.fired (f : Firing) (c : Cue) (skipped : Bool) (lanes : BitVec 16) : Firing :=
  { f with given := f.given
      ++ [(c.owner, .cueFired c.id c.tag c.action.kind skipped lanes)] }

/-- A MUTE or UNMUTE cue, trimmed to the lanes its owner still holds (R109, R110). -/
def Firing.muteLanes (f : Firing) (c : Cue) (lanes : BitVec 16) (m : Mute) : Firing :=
  let applied := lanes &&& f.state.heldLanes c.owner
  if applied = 0 then f.drop c .notHeld
  else
    { f.fired c (decide (applied ≠ lanes)) applied with
      changes := Vector.ofFn fun l => if applied.getLsbD l.val then some m else f.changes[l] }

/-- The rights of a cue are checked again and it takes effect or is dropped (R109, R110). -/
def Firing.act (f : Firing) (c : Cue) : Firing :=
  match c.action with
  | .mute lanes => f.muteLanes c lanes .muted
  | .unmute lanes => f.muteLanes c lanes .unmuted
  | .loadRow i row tap =>
    if f.state.playerHolder i = some c.owner then
      { f.fired c false 0 with
        state := f.state.setPlayer i
          ((f.state.player i).loadRow f.state.patternMem row tap true) }
    else f.drop c .notHeld
  | .halfLoad i row tap =>
    if f.state.playerHolder i = some c.owner then
      if (f.state.player i).primed then
        if (f.state.player i).rowJump.isSome then f.drop c .busy
        else
          { f.fired c false 0 with
            state := f.state.setPlayer i ((f.state.player i).loadHalf f.state.patternMem row tap) }
      else f.drop c .notPrimed
    else f.drop c .notHeld
  | .tempo v glide =>
    if f.state.leads c.owner then
      { f.fired c false 0 with
        state := { f.state with engine := f.state.engine.startTempo v glide } }
    else f.drop c .notLeader
  | .meter m =>
    if f.state.leads c.owner then
      { f.fired c false 0 with
        state := { f.state with engine := { f.state.engine with pendingMeter := some m } } }
    else f.drop c .notLeader
  | .stop =>
    if f.state.leads c.owner then { f.fired c false 0 with stop := true } else f.drop c .notLeader
  | .mark => f.fired c false 0

/-- The cues due at the generator position, in pool order (R108). -/
def State.dueCues (s : State) : List Cue :=
  s.cues.filter fun c => !s.gen.position.before c.fire

/-- The firing of every due cue of a step, one after the other (R108). -/
def State.fireCues (s : State) : Firing :=
  s.dueCues.foldl (fun f c => (f.remove c).act c)
    { state := s, changes := Vector.replicate 16 none, given := [], stop := false }

/-- The lane changes of a record, in ascending lane number (R45). -/
def laneChangeEntries (changes : Vector (Option Mute) 16) : List LaneChange :=
  lanesAll.filterMap fun l => changes[l].map fun m => ⟨l, m⟩

/-- At a step a STOP cue ends, the lane changes are handed to the lanes at once (R111, R151). -/
def State.handChanges (s : State) (changes : Vector (Option Mute) 16) : State :=
  { s with lanes := Vector.ofFn fun l =>
    match changes[l] with
    | some m => { s.lane l with mute := m }
    | none => s.lane l }

/-- A notice given for port `p` goes into the record that is being made: its kind is one the timing
applies to, and the port's timing is SOUND (R46, R178). -/
def State.goesToRecord (s : State) (p : Port) (b : NoticeBody) : Bool :=
  b.timed && decide ((s.noticeQueue p).timing = .sound)

/-- The notices given at a step are posted at this instant with position `x`, but those that go into the
record, where one is made (R46, R112, R113, R134, R179). -/
def State.postGiven (s : State) (made : Bool) (x : Position) (given : List (Port × NoticeBody)) :
    State :=
  given.foldl (fun s g => if made && s.goesToRecord g.1 g.2 then s else s.postAt g.1 g.2 (some x)) s

/-- The sound-notice entries of a record, one for each port with a notice placed in it, A to D (R46,
R179). -/
def State.soundEntries (s : State) (given : List (Port × NoticeBody)) : List SoundEntry :=
  Port.all.filterMap fun p =>
    let own := given.filter fun g =>
      decide (g.1 = p) && (s.port p).isOpen && s.enables p g.2 && s.goesToRecord p g.2
    match own with
    | [] => none
    | _ => some ⟨p, (s.port p).session, own.map fun g => g.2⟩

end Sys2Proof.Machine
end

