-- ==== Sys2Proof/Machine/Transport.lean ====
section
/-! DEFINITION. Transport (chapter 2): the changes of transport state, the reaching of a stop point, and
the commands START, STOP, LOCATE, GRID_RESET, SET_HORIZON and READ_POSITION. -/

namespace Sys2Proof.Machine

/-! ### Changes of state -/

/-- The transport state becomes `st`, and TRANSPORT is posted to every open port that has it enabled
(R24). -/
def State.enter (s : State) (st : TransportState) : State :=
  State.postAll { s with transport := { s.transport with state := st } } (.transport st)

/-- The transport becomes STOPPED: the launch time, the stop point, R_last and the last beat start are
made absent and the pending slip is cleared (R21, R34, R40). -/
def State.toStopped (s : State) : State :=
  State.enter
    (State.clearSlip { s with
      transport := { s.transport with launchTime := none, stopPoint := none, rLast := none }
      lastBeat := none })
    .stopped

/-- The last marker is set on the newest record of the queue (R33, R47). -/
def markNewest : List PulseRecord → List PulseRecord
  | [] => []
  | [r] => [{ r with markers := { r.markers with last := true } }]
  | r :: rs => r :: markNewest rs

/-- The stop point is reached at the generator position (R33). With a record in the queue the newest gets
the last marker, the lanes are told (R47), and the state becomes DRAINING; with an empty queue it
becomes STOPPED. Pending row jumps are applied (R133). -/
def State.reachStop (s : State) : State :=
  let s := s.playersStop
  match (markNewest s.queue).getLast? with
  | some r =>
    let s := { s with
      queue := markNewest s.queue
      transport := { s.transport with stopPoint := some s.gen.position, rLast := some r.refTime } }
    (s.tellLast r).enter .draining
  | none => s.toStopped

/-! ### START and STOP -/

/-- The launch time START takes, and its status (R26). -/
def State.launchFor (s : State) (t : Time) : Time × Status :=
  let soonest := later s.houseTime s.horizonUs
  let latest := later s.houseTime Config.launchSpan
  if t = 0 then (soonest, .ok)
  else if t.toNat < soonest.toNat then (soonest, .clamped)
  else if latest.toNat < t.toNat then (latest, .clamped)
  else (t, .ok)

/-- `s` with a launch time set. -/
def State.withLaunch (s : State) (t : Time) : State :=
  { s with transport := { s.transport with launchTime := some t } }

/-- The launch time of the current run, as START replies it (R27). -/
def State.launchBytes (s : State) : List Byte := optionBytes 8 timeBytes s.transport.launchTime

/-- START's effect and reply, from the leader (R26, R27). -/
def startBody (t : Time) (s : State) : State × Answer :=
  match s.transport.state with
  | .stopped =>
    let l := s.launchFor t
    ((s.withLaunch l.1).enter .armed, ⟨l.2, timeBytes l.1⟩)
  | .armed =>
    let l := s.launchFor t
    (s.withLaunch l.1, ⟨l.2, timeBytes l.1⟩)
  | .running => (s, ⟨.already, s.launchBytes⟩)
  | .stopPending =>
    (State.enter { s with transport := { s.transport with stopPoint := none } } .running,
      ⟨.ok, s.launchBytes⟩)
  | .draining => refusal s .tooLate

/-- START (R26, R27). -/
def execStart (p : Port) (launch : Time) (s : State) : Host.Outcome State Fault Refusal :=
  take p 0x13 (.start p launch) (asLeader p (startBody launch)) s

/-- The stop point a quantize mode resolves to (R30). -/
def State.stopPointFor (s : State) : Quantize → Position
  | .now => s.gen.position
  | .nextBeat => s.nextBeatStart
  | .nextBar => s.nextBarStart

/-- A stop point is set, in RUNNING or STOP_PENDING (R31). -/
def State.setStop (s : State) (x : Position) : State :=
  if x = s.gen.position then s.reachStop
  else
    let s' := { s with transport := { s.transport with stopPoint := some x } }
    if s.transport.state = .running then s'.enter .stopPending else s'

/-- STOP's effect and reply, from the leader (R30, R31). -/
def stopBody (quantize : Byte) (s : State) : State × Answer :=
  match readQuantize quantize with
  | none => refusal s .range
  | some q =>
    match s.transport.state with
    | .stopped => refusal s .already
    | .armed => (s.toStopped, .bare .ok)
    | .running => (s.setStop (s.stopPointFor q), ⟨.ok, positionBytes (s.stopPointFor q)⟩)
    | .stopPending => (s.setStop (s.stopPointFor q), ⟨.ok, positionBytes (s.stopPointFor q)⟩)
    | .draining => refusal s .already

/-- STOP (R30, R31). -/
def execStop (p : Port) (quantize : Byte) (s : State) : Host.Outcome State Fault Refusal :=
  take p 0x14 (.stop p quantize) (asLeader p (stopBody quantize)) s

/-! ### Relocation and the horizon -/

/-- The position LOCATE takes, and whether an adjustment was needed (R35). -/
def State.locatePosition (s : State) (bar : BitVec 16) (beat : Byte) : Position × Bool :=
  let b := clampNat 1 Config.lastBar bar.toNat
  let x := clampNat 1 s.engine.meter beat.toNat
  (⟨b.1, x.1, 0⟩, b.2 || x.2)

/-- LOCATE's effect and reply, from the leader (R35). -/
def locateBody (bar : BitVec 16) (beat : Byte) (s : State) : State × Answer :=
  if s.transport.state = .stopped then
    let x := s.locatePosition bar beat
    (State.dropAllCues { s with gen := { s.gen with position := x.1 } },
      ⟨takenStatus x.2, positionBytes x.1⟩)
  else refusal s .locked

/-- LOCATE (R35). -/
def execLocate (p : Port) (bar : BitVec 16) (beat : Byte) (s : State) :
    Host.Outcome State Fault Refusal :=
  take p 0x15 (.locate p bar beat) (asLeader p (locateBody bar beat)) s

/-- GRID_RESET's effect and reply, from the leader (R36). -/
def gridResetBody (s : State) : State × Answer :=
  if s.transport.state = .stopped then
    ((State.dropAllCues { s with gen := { s.gen with position := ⟨1, 1, 0⟩, pulse := 0 } }).playersHome,
      .bare .ok)
  else refusal s .locked

/-- GRID_RESET (R36). -/
def execGridReset (p : Port) (s : State) : Host.Outcome State Fault Refusal :=
  take p 0x16 (.gridReset p) (asLeader p gridResetBody) s

/-- SET_HORIZON's effect and reply (R37). -/
def setHorizonBody (ms : Byte) (s : State) : State × Answer :=
  if s.transport.state = .stopped then
    let h := clampNat 0 Config.horizonMax ms.toNat
    (State.raiseOffsets { s with transport := { s.transport with horizonMs := h.1 } },
      ⟨takenStatus h.2, byte h.1⟩)
  else refusal s .locked

/-- SET_HORIZON (R37). -/
def execSetHorizon (p : Port) (ms : Byte) (s : State) : Host.Outcome State Fault Refusal :=
  take p 0x17 (.setHorizon p ms) (setHorizonBody ms) s

/-! ### READ_POSITION -/

/-- The sounding record: the latest record of the queue whose reference time is at or before now (R39,
R53, log entry 15). -/
def State.soundingRecord (s : State) : Option PulseRecord :=
  (s.queue.filter fun r => s.reached r.refTime).getLast?

/-- The sounding record's fields in the snapshot (section 9.6). -/
def PulseRecord.snapshotBytes (r : PulseRecord) : List Byte :=
  toBytes 4 r.pulse.toNat ++ positionBytes r.position ++ timeBytes r.refTime ++ toBytes 4 r.interval

/-- The position snapshot, 62 bytes (R39, section 9.6). -/
def State.snapshotBytes (s : State) : List Byte :=
  let e := s.engine
  timeBytes s.houseTime
    ++ presence [s.soundingRecord.isSome, s.transport.launchTime.isSome, s.transport.stopPoint.isSome,
      e.pendingMeter.isSome, s.freewheel]
    ++ byte s.transport.state.code ++ byte s.arbiter.leader.code ++ byte s.transport.horizonMs
    ++ positionBytes s.gen.position ++ toBytes 2 (tempoOf e.interval)
    ++ toBytes 4 (beatPeriod e.interval) ++ signedBytes (slipUs e.slip) ++ toBytes 2 e.glideCount
    ++ byte e.meter ++ optionBytes 1 byte e.pendingMeter
    ++ optionBytes 8 timeBytes s.transport.launchTime
    ++ optionBytes 4 positionBytes s.transport.stopPoint
    ++ optionBytes 20 PulseRecord.snapshotBytes s.soundingRecord

/-- READ_POSITION's reply (R38, R39). -/
def readPositionBody (s : State) : State × Answer := (s, ⟨.ok, s.snapshotBytes⟩)

/-- READ_POSITION (R38, R39). -/
def execReadPosition (p : Port) (s : State) : Host.Outcome State Fault Refusal :=
  take p 0x18 (.readPosition p) readPositionBody s

end Sys2Proof.Machine
end

