-- ==== Sys2Proof/Machine/Generator.lean ====
section
/-! DEFINITION. The generator and the horizon queue (chapters 1 to 3): the generation sequence, the
making of a record, and the events LAUNCH_STEP, GENERATOR_STEP, RECORD_SOUNDS, RECORD_RETIRES and
DRAINING_END. -/

namespace Sys2Proof.Machine

/-! ### Making a record -/

/-- What the players do at a record: each player after it, whether it begins a step, and whether it
crossed (R131 to R134). -/
def State.playersAt (s : State) (launch : Bool) : Vector (Player × Bool × Bool) 4 :=
  Vector.ofFn fun i =>
    (s.player i).atRecord launch s.gen.position.barStart s.gen.position.index

/-- The step entries of a record, P0 to P3 (R44). -/
def stepEntries (after : Vector (Player × Bool × Bool) 4) : List StepEntry :=
  fourAll.filterMap fun i =>
    let a := after[i]
    if a.2.1 then some ⟨i, a.1.cursor, a.1.levels a.1.cursor⟩ else none

/-- The HALF_FREE notices of a record, P0 to P3, each for its player's holder (R134). -/
def State.halfFrees (s : State) (after : Vector (Player × Bool × Bool) 4) : List (Port × NoticeBody) :=
  fourAll.filterMap fun i =>
    let a := after[i]
    match a.2.2, s.playerHolder i with
    | true, some p =>
      let h := halfOf a.1.cursor
      some (p, .halfFree i h.other a.1.cursor (a.1.source h))
    | _, _ => none

/-- The BAR notices of a bar-start record (R179). -/
def State.barNotices (s : State) : List (Port × NoticeBody) :=
  if s.gen.position.barStart then Port.all.map fun p => (p, .bar) else []

/-- The notices given at the making of a record: those of the fired cues in the order the cues fired,
HALF_FREE P0 to P3, BAR. R46 gives this order for a SOUND port's entry in the record; that the notices an
ARM port is posted at one making stand in the same order is the model's choice (log entry 27). -/
def State.givenAt (s : State) (given : List (Port × NoticeBody))
    (after : Vector (Player × Bool × Bool) 4) : List (Port × NoticeBody) :=
  given ++ s.halfFrees after ++ s.barNotices

/-- The markers of a record made at a position (R42). -/
def markersAt (launch : Bool) (x : Position) : Markers where
  beatStart := x.beatStart
  barStart := x.barStart
  launch := launch
  last := false

/-- The record made at the generator position (R7, R16, R41). -/
def State.newRecord (s : State) (launch : Bool) (changes : Vector (Option Mute) 16)
    (given : List (Port × NoticeBody)) : PulseRecord where
  pulse := s.gen.pulse
  refTime := grainsToTime s.gen.n
  position := s.gen.position
  interval := s.engine.interval
  markers := markersAt launch s.gen.position
  steps := stepEntries (s.playersAt launch)
  laneChanges := laneChangeEntries changes
  sounds := s.soundEntries (s.givenAt given (s.playersAt launch))
  sounded := false

/-- A pending meter is applied at a bar start (R19). -/
def State.applyMeter (s : State) : State :=
  if s.gen.position.barStart then { s with engine := s.engine.applyMeter } else s

/-- The record `r` is appended: the queue, the last beat start and the lanes' cursors take it (R40, R52,
R146). -/
def State.append (s : State) (r : PulseRecord) : State :=
  { s with
    queue := s.queue ++ [r]
    lastBeat :=
      if r.markers.beatStart then some ⟨r.pulse, r.position, r.refTime⟩ else s.lastBeat
    lanes := Vector.ofFn fun l => (s.lane l).onAppend r.markers.launch r.pulse }

/-- The step's arithmetic after the record: N, the slip, the glide, the pulse number and the position
advance (R7, R8, R9, R16), and cues beyond a short bar are carried (R107). -/
def State.stepOn (s : State) : State :=
  let e := s.engine
  let x := s.gen.position
  { s with
    engine := e.afterRecord
    gen :=
      { position := x.advance e.meter
        pulse := s.gen.pulse + 1
        n := s.gen.n + BitVec.ofInt 80 ((e.interval : Int) + e.slipPortion) }
    cues := if x.lastOfBar e.meter then carryCues x.bar e.meter s.cues else s.cues }

/-- After the last pulse of bar 65535 every cue is dropped RELOCATED (R17, R117). -/
def State.wrapDrop (s : State) (made : Position) (m : Nat) : State :=
  if made.lastOfBar m ∧ Config.lastBar ≤ made.bar then s.dropAllCues else s

/-- The record at the generator position is made, the due cues having fired as `f` says (R29, step 3). -/
def makeRecord (launch : Bool) (f : Firing) : State :=
  let s := f.state.applyMeter
  let after := s.playersAt launch
  let r := s.newRecord launch f.changes f.given
  let posted := s.postGiven true s.gen.position (s.givenAt f.given after)
  let made := ({ posted with players := Vector.ofFn fun i => (after[i]).1 }.append r).stepOn
  made.wrapDrop s.gen.position s.engine.meter

/-- A step that a STOP cue ends: the lane changes are handed over, the cues' notices are posted at once,
and the stop point is reached (R32, R33, R111). -/
def stopStep (f : Firing) : State :=
  ((f.state.handChanges f.changes).postGiven false f.state.gen.position f.given).reachStop

/-- The generation sequence of R29 at a step that is not the launch. -/
def State.generate (s : State) : State :=
  if s.transport.stopPoint = some s.gen.position then s.reachStop
  else
    let f := s.fireCues
    if f.stop then stopStep f else makeRecord false f

/-! ### The steps -/

/-- The launch step is due: ARMED, and house time has reached T0 - H (R28). -/
def State.launchDue (s : State) : Bool :=
  decide (s.transport.state = .armed)
    && s.due (s.transport.launchTime.map fun t => earlier t s.horizonUs)

/-- `s` with N set to the launch time (R2, R28). -/
def State.setLaunchN (s : State) : State :=
  match s.transport.launchTime with
  | some t => { s with gen := { s.gen with n := timeToGrains t } }
  | none => s

/-- The launch step (R28): the launch record, or the stop point that a STOP cue sets there, in which case
N, the position and the pulse number stay. The notice follows the record (log entry 12). -/
def State.launch (s : State) : State :=
  if s.transport.stopPoint = some s.gen.position then s.reachStop
  else
    let f := s.fireCues
    if f.stop then stopStep f
    else (makeRecord true { f with state := f.state.setLaunchN }).enter .running

/-- LAUNCH_STEP (R28). Before its instant, or in another state, nothing happens. -/
def execLaunchStep (s : State) : Host.Outcome State Fault Refusal :=
  if s.launchDue then .next s.launch else .next s

/-- The next step is due: RUNNING or STOP_PENDING, and house time has reached floor(N / 65536) - H
(R29). -/
def State.generatorDue (s : State) : Bool :=
  s.making && s.reached (earlier (grainsToTime s.gen.n) s.horizonUs)

/-- GENERATOR_STEP (R29). Before its instant, or in another state, nothing happens. -/
def execGeneratorStep (s : State) : Host.Outcome State Fault Refusal :=
  if s.generatorDue then .next s.generate else .next s

/-! ### Sounding and retirement -/

/-- The next record to sound: the first that has not, if its reference time is reached (R49). -/
def State.nextToSound (s : State) : Option PulseRecord :=
  match s.queue.find? (fun r => !r.sounded) with
  | some r => if s.reached r.refTime then some r else none
  | none => none

/-- A sound-notice entry is posted, or discarded when its port has closed since the making (R49, R179). -/
def State.giveEntry (s : State) (r : PulseRecord) (e : SoundEntry) : State :=
  if (s.port e.port).session = e.session then
    e.bodies.foldl (fun s b => s.give e.port ⟨b, low32 r.refTime, some r.position⟩) s
  else s

/-- The first record that has not sounded is marked as sounded. -/
def markSounded : List PulseRecord → List PulseRecord
  | [] => []
  | r :: rs => if r.sounded then r :: markSounded rs else { r with sounded := true } :: rs

/-- The record `r` sounds (R49). -/
def State.sound (s : State) (r : PulseRecord) : State :=
  r.sounds.foldl (fun s e => s.giveEntry r e) { s with queue := markSounded s.queue }

/-- RECORD_SOUNDS (R49). With no record due to sound, nothing happens. -/
def execRecordSounds (s : State) : Host.Outcome State Fault Refusal :=
  match s.nextToSound with
  | some r => .next (s.sound r)
  | none => .next s

/-- The record at the front of the queue is due to retire: house time exceeds its reference time by more
than 250,000 µs (R50). -/
def State.retireDue (s : State) : Bool :=
  s.due (s.queue.head?.map fun r => later r.refTime (Config.retireAfter + 1))

/-- DRAINING's end: the queue is empty from then on, and the transport becomes STOPPED (R34, R50). -/
def State.drained (s : State) : State := State.toStopped { s with queue := [] }

/-- The front record retires. With one that carries the last marker, the transport becomes STOPPED at the
same instant (R50, log entry 21). -/
def State.retire (s : State) : State :=
  match s.queue with
  | [] => s
  | r :: q => if r.markers.last then s.drained else { s with queue := q }

/-- RECORD_RETIRES (R50). With no record due to retire, nothing happens (log entry 22). -/
def execRecordRetires (s : State) : Host.Outcome State Fault Refusal :=
  if s.retireDue then .next s.retire else .next s

/-- DRAINING ends: house time exceeds R_last + 250,000 (R34). -/
def State.drainingDue (s : State) : Bool :=
  decide (s.transport.state = .draining)
    && s.due (s.transport.rLast.map fun t => later t (Config.retireAfter + 1))

/-- DRAINING_END (R34), the same change as the last record's retirement (log entry 21). Before its
instant, or in another state, nothing happens (log entry 22). -/
def execDrainingEnd (s : State) : Host.Outcome State Fault Refusal :=
  if s.drainingDue then .next s.drained else .next s

end Sys2Proof.Machine
end

