-- ==== Sys2Proof/Machine/Leadership.lean ====
section
/-! DEFINITION. Leadership (chapter 4): the leader field and every change of it, bids, grants, the two
timers, and the commands and expiries of the lead arbiter. -/

namespace Sys2Proof.Machine

/-! ### The leader field -/

/-- The leader field is set. A tap the field leaves goes out of follow mode, a tap it comes to goes into
it (R61, R71, R72, R89), and the tempo engine clears the pending slip (R22). -/
def State.setLeader (s : State) (l : Leader) : State :=
  State.clearSlip { s with
    arbiter := { s.arbiter with leader := l }
    taps := Vector.ofFn fun t =>
      if s.arbiter.leader = .tap t ∨ l = .tap t then { s.tap t with follow := decide (l = .tap t) }
      else s.tap t }

/-- The silence timer stops (R66, R71, R74). -/
def State.stopSilence (s : State) : State :=
  { s with arbiter := { s.arbiter with silenceExpiry := none } }

/-- The slot is emptied and the wait timer stops (R61, R64, R65, R67). -/
def State.emptySlot (s : State) : State :=
  { s with arbiter := { s.arbiter with slot := none, waitExpiry := none } }

/-- The leader field becomes none: the silence timer stops, the slip is cleared, and FREEWHEEL is posted
to every open port that has it enabled (R66, R70, R72, R74, R76). -/
def State.freewheels (s : State) (reason : FreewheelReason) : State :=
  (s.setLeader .nobody).stopSilence.postAll (.freewheel reason s.arbiter.leader)

/-! ### Grants -/

/-- The phase difference of a matched grant in µs, brought to the nearer side of the beat; none while no
last beat start is present (R62, log entry 17). -/
def phaseDifference (beat : Option BeatMark) (beatRef : Time) (interval : Nat) : Option Int :=
  match beat with
  | none => none
  | some m =>
    let period : Int := (beatPeriod interval : Nat)
    let r := ((beatRef.toNat : Int) - (m.refTime.toNat : Int)) % period
    some (if 2 * r > period then r - period else r)

/-- What a matched grant does to the engine: the engine after, the phase difference and whether the slip
was clamped (R62). -/
def Engine.matchBid (e : Engine) (beat : Option BeatMark) (b : Bid) : Engine × Option Int × Bool :=
  let e := e.startTempo b.tempo b.glide
  match phaseDifference beat b.beatRef e.interval with
  | none => (e, none, false)
  | some d => ((e.addSlip (d * 65536)).1, some d, (e.addSlip (d * 65536)).2)

/-- The engine's part of a grant and the LEAD_GRANTED notice (R61, R62, R75). -/
def State.grantEngine (s : State) (b : Bid) (route : Route) : State × NoticeBody :=
  match b.kind with
  | .plain => (s, .leadGranted route .plain 0 0 none false)
  | .matched =>
    let r := s.engine.matchBid s.lastBeat b
    ({ s with engine := r.1 }, .leadGranted route .matched b.tempo b.glide r.2.1 r.2.2)

/-- The old leader, a port, receives LOST where the route calls for it (R61, R68, R70). -/
def State.grantLost (s : State) (old : Leader) (b : Bid) (route : Route) : State :=
  match old, route with
  | .port y, .deposed => s.post y (.lost .deposed (some b.bidder))
  | .port y, .silent => s.post y (.lost .silent (some b.bidder))
  | _, _ => s

/-- A grant: the bidder becomes leader (R61). -/
def State.grant (s : State) (b : Bid) (route : Route) : State :=
  let led := ((s.setLeader (.port b.bidder)).emptySlot.stopSilence).restartSilence b.bidder
  let g := led.grantEngine b route
  (g.1.grantLost s.arbiter.leader b route).post b.bidder g.2

/-! ### Bids -/

/-- The bid stands in the slot and the wait timer starts afresh (R67). -/
def State.fillSlot (s : State) (b : Bid) : State :=
  { s with arbiter := { s.arbiter with
      slot := some b
      waitExpiry := if b.wait = 0 then none else some (later s.houseTime (b.wait * 100000)) } }

/-- The bid enters the slot, the wait timer starts afresh, and the leader `y` is told (R59, R60, R67,
R75). -/
def State.enterSlot (s : State) (b : Bid) (y : Port) : State :=
  (s.fillSlot b).post y (.handoverRequest b.bidder b.rank b.kind b.wait b.tempo b.glide)

/-- The bid a BID of port `p` makes, its fields brought to their limits, and whether any was adjusted
(R58, R59). The tempo, beat reference and glide of a PLAIN bid are ignored. -/
def State.makeBid (s : State) (p : Port) (kind : BidKind) (wait tempo : BitVec 16) (beatRef : Time)
    (glide : Byte) : Bid × Bool :=
  let w := clampNat 0 Config.waitMax wait.toNat
  match kind with
  | .plain =>
    ({ bidder := p, rank := (s.port p).rank, kind := .plain, tempo := 0, beatRef := 0, glide := 0,
       wait := w.1 }, w.2)
  | .matched =>
    let c := clampTempo tempo
    let g := clampGlide glide
    ({ bidder := p, rank := (s.port p).rank, kind := .matched, tempo := c.1, beatRef := beatRef,
       glide := g.1, wait := w.1 }, w.2 || c.2 || g.2)

/-- The reply to a BID that is taken: the clamped flag, the values taken and the leader field after the
command (R59, log entry 7). -/
def bidAnswer (b : Bid) (clamped : Bool) (st : Status) (s : State) : State × Answer :=
  (s, ⟨st, flagByte clamped ++ toBytes 2 b.tempo ++ byte b.glide ++ toBytes 2 b.wait
    ++ byte s.arbiter.leader.code⟩)

/-- What a bid that has passed its checks comes to (R59, R60). -/
def placeBid (b : Bid) (clamped : Bool) (s : State) : State × Answer :=
  match s.arbiter.leader with
  | .port y =>
    if y = b.bidder then bidAnswer b clamped .already s
    else
      match s.arbiter.slot with
      | none => bidAnswer b clamped .pending (s.enterSlot b y)
      | some z =>
        if z.bidder = b.bidder then bidAnswer b clamped .pending (s.enterSlot b y)
        else if z.rank < b.rank then
          bidAnswer b clamped .pending
            ((s.post z.bidder (.lost .displaced (some b.bidder))).enterSlot b y)
        else (s, ⟨.lost, byte LostStage.contended.code ++ byte (portCode (some z.bidder))⟩)
  | .nobody => bidAnswer b clamped .ok (s.grant b .immediate)
  | .tap _ => bidAnswer b clamped .ok (s.grant b .immediate)

/-- BID's effect and reply (R59). -/
def bidBody (p : Port) (kind : Byte) (wait tempo : BitVec 16) (beatRef : Time) (glide : Byte)
    (s : State) : State × Answer :=
  match readBidKind kind with
  | none => refusal s .range
  | some k =>
    if (s.port p).eligible then
      placeBid (s.makeBid p k wait tempo beatRef glide).1 (s.makeBid p k wait tempo beatRef glide).2 s
    else refusal s .notEligible

/-- BID (R59). -/
def execBid (p : Port) (kind : Byte) (wait tempo : BitVec 16) (beatRef : Time) (glide : Byte)
    (s : State) : Host.Outcome State Fault Refusal :=
  take p 0x20 (.bid p kind wait tempo beatRef glide) (bidBody p kind wait tempo beatRef glide) s

/-! ### Answers from the leader and the bidder -/

/-- YIELD's effect and reply, from the leader (R63). -/
def yieldBody (s : State) : State × Answer :=
  match s.arbiter.slot with
  | none => refusal s .already
  | some b =>
    let s := s.grant b .yielded
    (s, ⟨.ok, byte s.arbiter.leader.code⟩)

/-- YIELD (R63). -/
def execYieldLead (p : Port) (s : State) : Host.Outcome State Fault Refusal :=
  take p 0x21 (.yieldLead p) (asLeader p yieldBody) s

/-- REFUSE's effect and reply, from the leader `p` (R64). -/
def refuseBody (p : Port) (s : State) : State × Answer :=
  match s.arbiter.slot with
  | none => refusal s .already
  | some b => (s.emptySlot.post b.bidder (.lost .refused (some p)), .bare .ok)

/-- REFUSE (R64). -/
def execRefuse (p : Port) (s : State) : Host.Outcome State Fault Refusal :=
  take p 0x22 (.refuse p) (asLeader p (refuseBody p)) s

/-- WITHDRAW's effect and reply (R65). -/
def withdrawBody (p : Port) (s : State) : State × Answer :=
  if s.bids p then (s.emptySlot, .bare .ok) else refusal s .already

/-- WITHDRAW (R65). -/
def execWithdraw (p : Port) (s : State) : Host.Outcome State Fault Refusal :=
  take p 0x24 (.withdraw p) (withdrawBody p) s

/-- RELEASE's effect and reply, from the leader (R66). -/
def releaseBody (s : State) : State × Answer :=
  let s :=
    match s.arbiter.slot with
    | some b => s.grant b .released
    | none => s.freewheels .released
  (s, ⟨.ok, byte s.arbiter.leader.code⟩)

/-- RELEASE (R66). -/
def execRelease (p : Port) (s : State) : Host.Outcome State Fault Refusal :=
  take p 0x23 (.release p) (asLeader p releaseBody) s

/-- KEEP (R69): its one effect is the restart of the silence timer that its frame's end gives. -/
def execKeep (p : Port) (s : State) : Host.Outcome State Fault Refusal :=
  take p 0x25 (.keep p) (asLeader p fun s => (s, .bare .ok)) s

/-- HAND_TO_TAP's effect and reply, from the leader (R71). -/
def handToTapBody (tap : Byte) (s : State) : State × Answer :=
  match readFour tap with
  | none => refusal s .range
  | some t =>
    if s.arbiter.slot.isSome then refusal s .busy
    else if (s.tap t).state = .steady then
      ((s.setLeader (.tap t)).stopSilence, .bare .ok)
    else refusal s .notSteady

/-- HAND_TO_TAP (R71). -/
def execHandToTap (p : Port) (tap : Byte) (s : State) : Host.Outcome State Fault Refusal :=
  take p 0x26 (.handToTap p tap) (asLeader p (handToTapBody tap)) s

/-! ### Timers -/

/-- The port that leads, if one does. -/
def State.leaderPort (s : State) : Option Port :=
  match s.arbiter.leader with
  | .port y => some y
  | _ => none

/-- The rank of the port that leads (R68). -/
def State.leaderRank (s : State) : Nat :=
  match s.leaderPort with
  | some y => (s.port y).rank
  | none => 0

/-- The handover wait timer expires on the bid `b` (R68). -/
def State.waitExpires (s : State) (b : Bid) : State :=
  if s.leaderRank < b.rank then s.grant b .deposed
  else s.emptySlot.post b.bidder (.lost .timedOut s.leaderPort)

/-- WAIT_TIMER_EXPIRY (R68). Before the timer's expiry, or with no timer running, nothing happens. -/
def execWaitTimerExpiry (s : State) : Host.Outcome State Fault Refusal :=
  match s.arbiter.slot with
  | some b => if s.due s.arbiter.waitExpiry then .next (s.waitExpires b) else .next s
  | none => .next s

/-- The leader silence timer expires (R70). -/
def State.silenceExpires (s : State) : State :=
  match s.arbiter.slot with
  | some b => s.grant b .silent
  | none =>
    match s.arbiter.leader with
    | .port y =>
      ((s.setLeader .nobody).stopSilence.post y (.lost .silent none)).postAll
        (.freewheel .silent (.port y))
    | _ => s.stopSilence

/-- SILENCE_TIMER_EXPIRY (R70). Before the timer's expiry, or with no timer running, nothing happens. -/
def execSilenceTimerExpiry (s : State) : Host.Outcome State Fault Refusal :=
  if s.due s.arbiter.silenceExpiry then .next s.silenceExpires else .next s

/-! ### Closing and reading -/

/-- The arbiter's part of a port's close (R73, R74). -/
def State.arbiterCloses (s : State) (p : Port) : State :=
  if s.leads p then
    match s.arbiter.slot with
    | some b => s.grant b .closed
    | none => s.freewheels .closed
  else if s.bids p then s.emptySlot
  else s

/-- The time left before an expiry in ms, rounded down (R67, R69), four bytes. -/
def State.msLeft (s : State) (t : Time) : List Byte := toBytes 4 (s.until t / 1000)

/-- A pending bid as READ_LEADERSHIP reports it: bidder, rank, kind, wait limit, tempo value, beat
reference time, glide beats (R77). -/
def Bid.bytes (b : Bid) : List Byte :=
  byte (portCode (some b.bidder)) ++ byte b.rank ++ byte b.kind.code ++ toBytes 2 b.wait
    ++ toBytes 2 b.tempo ++ timeBytes b.beatRef ++ byte b.glide

/-- READ_LEADERSHIP's reply to port `p` (R77). -/
def readLeadershipBody (p : Port) (s : State) : State × Answer :=
  let a := s.arbiter
  let y := s.leaderPort
  (s, ⟨.ok,
    byte a.leader.code
      ++ presence [y.isSome, y.isSome, a.silenceExpiry.isSome, a.slot.isSome, a.waitExpiry.isSome]
      ++ optionBytes 1 (fun q => byte (s.port q).rank) y
      ++ optionBytes 1 (fun q => byte (s.port q).silenceLimit) y
      ++ optionBytes 4 s.msLeft a.silenceExpiry
      ++ optionBytes 16 Bid.bytes a.slot
      ++ optionBytes 4 s.msLeft a.waitExpiry
      ++ byte (portCode (some p)) ++ flagByte (s.port p).eligible ++ byte (s.port p).rank⟩)

/-- READ_LEADERSHIP (R77). -/
def execReadLeadership (p : Port) (s : State) : Host.Outcome State Fault Refusal :=
  take p 0x27 (.readLeadership p) (readLeadershipBody p) s

end Sys2Proof.Machine
end

