-- ==== Sys2Proof/Machine/Taps.lean ====
section
/-! DEFINITION. Tap inputs and lock (chapter 5): the ring and its states, edges and outliers, the lock
loop, and the tap commands. -/

namespace Sys2Proof.Machine

/-! ### The ring -/

/-- The span of a ring in µs: newest less oldest, as a signed 64-bit difference (R81). -/
def ringSpan (ring : List Time) : Int :=
  match ring.head?, ring.getLast? with
  | some oldest, some newest => signedDiff newest oldest
  | _, _ => 0

/-- The mean edge interval E, absent below two edges (R83). -/
def meanEdge (ring : List Time) : Option Int :=
  if ring.length < 2 then none else some (ringSpan ring / ((ring.length - 1 : Nat) : Int))

/-- The measured interval of a ring at `k` edges per beat, absent below two edges (R87). -/
def measuredIntervalOf (k : Nat) (ring : List Time) : Option Nat :=
  if ring.length < 2 then none
  else
    let n := ring.length - 1
    some (clampNat Config.intervalMin Config.intervalMax
      ((2 * (ringSpan ring).toNat * 65536 * k + 96 * n) / (192 * n))).1

/-- The tap with another ring: its state follows the count and the measured values are recomputed (R82,
R87, R88). -/
def Tap.withRing (tap : Tap) (ring : List Time) : Tap :=
  { tap with
    ring := ring
    state := tapStateOf ring.length
    measuredInterval := measuredIntervalOf tap.k ring
    measuredTempo := (measuredIntervalOf tap.k ring).map tempoOf }

/-- The ring is emptied: the tap is SILENT, its suspect flag clear, its deadline absent (R86, R94,
R95). -/
def Tap.emptied (tap : Tap) : Tap := { tap.withRing [] with suspect := false, deadline := none }

/-- The silence deadline an edge arriving at `now` sets, from the ring after it (R85). -/
def silenceDeadline (now : Time) (ring : List Time) : Time :=
  match tapStateOf ring.length, meanEdge ring with
  | .steady, some e => later now (4 * e).toNat
  | _, _ => later now Config.learningSilence

/-- An edge that arrived at `now` makes `ring` the tap's ring (R84, R85). -/
def Tap.takeRing (tap : Tap) (now : Time) (ring : List Time) : Tap :=
  { tap.withRing ring with suspect := false, deadline := some (silenceDeadline now ring) }

/-- A ring with an edge appended, its oldest removed when it held 8 (R81). -/
def pushEdge (ring : List Time) (e : Time) : List Time :=
  (if ring.length < Config.ringDepth then ring else ring.drop 1) ++ [e]

/-- An edge captured at `e` is an outlier against a ring of three or more (R83). -/
def isOutlier (ring : List Time) (e : Time) : Bool :=
  decide (3 ≤ ring.length) &&
    match meanEdge ring, ring.getLast? with
    | some m, some newest => decide (8 * (signedDiff e newest - m).natAbs > m)
    | _, _ => false

/-- What becomes of an edge (R80, R84). -/
inductive Disposition where
  | ignored | discarded | entered | restarted
  deriving DecidableEq, Repr

/-- The captured time of an edge that arrives at `now` (R80). -/
def Tap.captured (tap : Tap) (now : Time) : Time := shifted now (-tap.offset)

/-- The debounce ignores an edge that arrives at `now` (R80). -/
def Tap.debounces (tap : Tap) (now : Time) : Bool :=
  match tap.debounceRef with
  | some r => decide ((now - r).toNat < Config.debounce)
  | none => false

/-- An edge arriving at `now` is put to the tap (R80, R84). -/
def Tap.edge (tap : Tap) (now : Time) : Tap × Disposition :=
  if tap.debounces now then (tap, .ignored)
  else
    let tap := { tap with debounceRef := some now }
    let e := tap.captured now
    if isOutlier tap.ring e then
      if tap.suspect then (tap.takeRing now [e], .restarted)
      else ({ tap with suspect := true }, .discarded)
    else (tap.takeRing now (pushEdge tap.ring e), .entered)

/-! ### Changes of state -/

/-- The TAP_STATE notice of tap `t` as it stands (R97). -/
def State.tapNotice (s : State) (t : Fin 4) (cause : TapCause) : NoticeBody :=
  .tapState t (s.tap t).state cause (s.tap t).ring.length (s.tap t).measuredTempo

/-- Tap `t` becomes `tap`. A change of its state posts TAP_STATE (R82, R97); a leading tap that leaves
STEADY then loses the lead (R72, R93). -/
def State.changeTap (s : State) (t : Fin 4) (tap : Tap) (cause : TapCause) : State :=
  let old := s.tap t
  let s := s.setTap t tap
  if old.state = tap.state then s
  else
    let s := s.postAll (s.tapNotice t cause)
    if s.arbiter.leader = .tap t ∧ tap.state ≠ .steady then s.freewheels .tapLost else s

/-! ### The lock loop -/

/-- The tempo correction of a lock edge: a quarter of the way to the measured interval, and any glide
ends (R90). -/
def Engine.lockTempo (e : Engine) (measured : Nat) : Engine :=
  let i : Int := (e.interval : Int) + ((measured : Int) - (e.interval : Int)).tdiv 4
  let i := (clampInt (Config.intervalMin : Int) (Config.intervalMax : Int) i).1.toNat
  { e with interval := i, glideTarget := i, glideStep := 0, glideCount := 0 }

/-- The records whose position qualifies for a phase correction at `k` edges per beat (R91). -/
def qualifies (k : Nat) (r : PulseRecord) : Bool := decide (r.position.pulse % (96 / k) = 0)

/-- The record nearest a captured time, the earlier of two equally near (R91). -/
def nearestRecord (e : Time) : List PulseRecord → Option PulseRecord
  | [] => none
  | r :: rs =>
    match nearestRecord e rs with
    | none => some r
    | some b =>
      if (signedDiff e r.refTime).natAbs ≤ (signedDiff e b.refTime).natAbs then some r else some b

/-- The phase correction of a lock edge captured at `e` (R91). -/
def Engine.lockPhase (eng : Engine) (q : List PulseRecord) (k : Nat) (e : Time) : Engine :=
  match nearestRecord e (q.filter (qualifies k)) with
  | some r => (eng.addSlip ((signedDiff e r.refTime * 65536).tdiv 2)).1
  | none => eng

/-- A lock edge of tap `tap`, captured at `e`: first the tempo, then the phase (R89). -/
def State.lockEdge (s : State) (tap : Tap) (e : Time) : State :=
  match tap.measuredInterval with
  | some m => { s with engine := (s.engine.lockTempo m).lockPhase s.queue tap.k e }
  | none => s

/-- TAP_EDGE (R80, R84, R89). While RST is low no edge is captured (R1). -/
def execTapEdge (t : Fin 4) (s : State) : Host.Outcome State Fault Refusal :=
  if s.rstLow then .next s
  else
    let r := (s.tap t).edge s.houseTime
    match r.2 with
    | .ignored => .next s
    | .discarded => .next (s.setTap t r.1)
    | .restarted => .next (s.changeTap t r.1 .restart)
    | .entered =>
      let s' := s.changeTap t r.1 .edge
      if (s'.tap t).follow ∧ (s'.tap t).state = .steady then
        .next (s'.lockEdge (s'.tap t) (r.1.captured s.houseTime))
      else .next s'

/-- TAP_SILENCE_DEADLINE (R86). Before the deadline, or with none set, nothing happens. -/
def execTapSilenceDeadline (t : Fin 4) (s : State) : Host.Outcome State Fault Refusal :=
  if s.due (s.tap t).deadline then .next (s.changeTap t (s.tap t).emptied .silence) else .next s

/-! ### Commands -/

/-- SET_TAP's effect and reply (R94). -/
def setTapBody (tap k : Byte) (offset : BitVec 32) (s : State) : State × Answer :=
  match readFour tap, readEdgesPerBeat k with
  | some t, some n =>
    let o := clampInt (-(Config.offsetMax : Int)) (Config.offsetMax : Int) offset.toInt
    let old := s.tap t
    let s :=
      if old.k = n then
        s.setTap t { old with
          offset := o.1
          ring := old.ring.map fun e => shifted e (old.offset - o.1) }
      else
        s.changeTap t
          ({ old with k := n, offset := o.1, debounceRef := none }.emptied) .settings
    (s, ⟨takenStatus o.2, [tap, k] ++ signedBytes o.1 ++ byte (s.tap t).state.code⟩)
  | _, _ => refusal s .range

/-- SET_TAP (R94). -/
def execSetTap (p : Port) (tap k : Byte) (offset : BitVec 32) (s : State) :
    Host.Outcome State Fault Refusal :=
  take p 0x30 (.setTap p tap k offset) (setTapBody tap k offset) s

/-- TAP_CLEAR's effect and reply (R95). -/
def tapClearBody (tap : Byte) (s : State) : State × Answer :=
  match readFour tap with
  | none => refusal s .range
  | some t =>
    if (s.tap t).state = .silent then
      (s.setTap t { s.tap t with debounceRef := none }, .bare .already)
    else (s.changeTap t ({ s.tap t with debounceRef := none }.emptied) .clear, .bare .ok)

/-- TAP_CLEAR (R95). -/
def execTapClear (p : Port) (tap : Byte) (s : State) : Host.Outcome State Fault Refusal :=
  take p 0x31 (.tapClear p tap) (tapClearBody tap) s

/-- READ_TAP's reply (R96). The mean edge interval E goes out in four bytes as the signed µs of R174, which has
no row for an unsigned duration in µs (log entry 7). -/
def readTapBody (tap : Byte) (s : State) : State × Answer :=
  match readFour tap with
  | none => refusal s .range
  | some t =>
    let v := s.tap t
    let e := meanEdge v.ring
    (s, ⟨.ok,
      [tap] ++ byte v.state.code ++ byte v.k ++ signedBytes v.offset ++ byte v.ring.length
        ++ v.ring.flatMap timeBytes
        ++ presence [e.isSome, v.measuredInterval.isSome, v.measuredTempo.isSome, v.deadline.isSome]
        ++ optionBytes 4 signedBytes e ++ optionBytes 4 (toBytes 4) v.measuredInterval
        ++ optionBytes 2 (toBytes 2) v.measuredTempo ++ flagByte v.suspect ++ flagByte v.follow
        ++ optionBytes 4 s.msLeft v.deadline⟩)

/-- READ_TAP (R96). -/
def execReadTap (p : Port) (tap : Byte) (s : State) : Host.Outcome State Fault Refusal :=
  take p 0x32 (.readTap p tap) (readTapBody tap) s

end Sys2Proof.Machine
end

