-- ==== Sys2Proof/Machine/Ports.lean ====
section
/-! DEFINITION. Desk ports (sections 9.4 and 9.5): opening and closing, the profile and the identity, and
the reset pin (R1). -/

namespace Sys2Proof.Machine

/-! ### Opening and closing -/

/-- A port's profile as replies carry it: eligible flag, rank, silence limit, attention enable (R171). -/
def DeskPort.profileBytes (d : DeskPort) : List Byte :=
  flagByte d.eligible ++ byte d.rank ++ byte d.silenceLimit ++ flagByte d.attention

/-- A port's notice enables and timing as replies carry them (R178). -/
def NoticeQueue.settingBytes (q : NoticeQueue) : List Byte :=
  toBytes 2 q.enabled.toNat ++ byte q.timing.code

/-- OPEN's reply: profile, allocation, notice enables and timing, session number (R169). -/
def State.openBytes (s : State) (p : Port) : List Byte :=
  (s.port p).profileBytes ++ byte (s.allocation p) ++ (s.noticeQueue p).settingBytes
    ++ toBytes 4 (s.port p).session.toNat

/-- OPEN's effect and reply (R169). -/
def openBody (p : Port) (s : State) : State × Answer :=
  if (s.port p).isOpen then (s, ⟨.already, s.openBytes p⟩)
  else (s.setPort p { s.port p with isOpen := true }, ⟨.ok, s.openBytes p⟩)

/-- OPEN (R169). -/
def execOpenPort (p : Port) (s : State) : Host.Outcome State Fault Refusal :=
  take p 0x01 (.openPort p) (openBody p) s

/-- The port becomes CLOSED and its session number rises by one, modulo 2^32 (R170, R162). -/
def State.markClosed (s : State) (p : Port) : State :=
  s.setPort p { s.port p with isOpen := false, session := (s.port p).session + 1 }

/-- The notice unit's part of a close: the queue is emptied and its flag cleared, the settings are kept,
and ATTN is released (R176, R180). -/
def State.emptyNotices (s : State) (p : Port) : State :=
  (s.setNoticeQueue p { s.noticeQueue p with queue := [], overflowed := false }).refreshAttn p

/-- The whole of a close, one event (R170). The port is CLOSED before the arbiter acts, so the FREEWHEEL
of R74 does not reach it. -/
def State.closePort (s : State) (p : Port) : State :=
  ((((((s.markClosed p).arbiterCloses p).releaseClaims p).removeCues p).setWriteSetting p
    WriteSettings.reset).emptyNotices p)

/-- CLOSE (R170). -/
def execClosePort (p : Port) (s : State) : Host.Outcome State Fault Refusal :=
  take p 0x02 (.closePort p) (fun s => (s.closePort p, .bare .ok)) s

/-! ### The profile -/

/-- A rank, 0 to 3 (R171). -/
def readRank (b : Byte) : Option Nat := if b.toNat ≤ 3 then some b.toNat else none

/-- The lock of R57: port `p` leads or bids, and the command would clear its eligible flag or change its
rank. -/
def State.profileLocked (s : State) (p : Port) (eligible : Bool) (rank : Nat) : Bool :=
  (s.leads p || s.bids p)
    && (((s.port p).eligible && !eligible) || decide (rank ≠ (s.port p).rank))

/-- The four fields of a profile are taken: the silence timer is restarted on the leader's port (R69),
and ATTN follows the attention enable (R180). -/
def State.takeProfile (s : State) (p : Port) (eligible : Bool) (rank limit : Nat) (attention : Bool) :
    State :=
  ((s.setPort p { s.port p with
      eligible := eligible, rank := rank, silenceLimit := limit
      attention := attention }).restartSilence p).refreshAttn p

/-- SET_PROFILE's effect and reply (R171). -/
def setProfileBody (p : Port) (eligible rank silenceLimit attention : Byte) (s : State) :
    State × Answer :=
  match readFlag eligible, readRank rank, readFlag attention with
  | some e, some r, some a =>
    if s.profileLocked p e r then refusal s .locked
    else
      let l := clampNat 0 Config.silenceMax silenceLimit.toNat
      let s' := s.takeProfile p e r l.1 a
      (s', ⟨takenStatus l.2, (s'.port p).profileBytes⟩)
  | _, _, _ => refusal s .range

/-- SET_PROFILE (R171). -/
def execSetProfile (p : Port) (eligible rank silenceLimit attention : Byte) (s : State) :
    Host.Outcome State Fault Refusal :=
  take p 0x03 (.setProfile p eligible rank silenceLimit attention)
    (setProfileBody p eligible rank silenceLimit attention) s

/-- READ_PROFILE's reply (R172). -/
def readProfileBody (p : Port) (s : State) : State × Answer :=
  (s, ⟨.ok,
    (s.port p).profileBytes ++ byte (s.allocation p) ++ byte (s.cueCount p)
      ++ (s.noticeQueue p).settingBytes ++ flagByte (s.leads p) ++ flagByte (s.bids p)
      ++ toBytes 4 (s.port p).session.toNat⟩)

/-- READ_PROFILE (R172). -/
def execReadProfile (p : Port) (s : State) : Host.Outcome State Fault Refusal :=
  take p 0x04 (.readProfile p) (readProfileBody p) s

/-! ### Identity -/

/-- The feature chain: feature code and count, ended by an entry of zeros (R173). -/
def featureChain : List (Nat × Nat) :=
  [(1, 4), (2, 16), (3, 4), (4, 128), (5, 64), (6, 8), (7, 128), (8, 4), (9, 250), (10, 16), (0, 0)]

/-- READ_IDENTITY's payload: vendor code, part code, revision, feature chain (R173). -/
def identityBytes : List Byte :=
  toBytes 2 0x50A7 ++ toBytes 2 0x0416 ++ byte 1
    ++ featureChain.flatMap fun e => byte e.1 ++ toBytes 2 e.2

/-- READ_IDENTITY's reply (R173). -/
def readIdentityBody (s : State) : State × Answer := (s, ⟨.ok, identityBytes⟩)

/-- READ_IDENTITY (R173). -/
def execReadIdentity (p : Port) (s : State) : Host.Outcome State Fault Refusal :=
  take p 0x05 (.readIdentity p) readIdentityBody s

/-! ### The reset pin -/

/-- RESET (R1): RST is held low, house time stays 0 and every block takes its power-on values. The pattern
cells keep their levels until a clear ends (R121, log entry 2). The counters that pick the model's free
values go on, and the commands that wait stay. -/
def execReset (s : State) : Host.Outcome State Fault Refusal :=
  .next { State.reset with
    rstLow := true
    patternMem := s.patternMem
    acceptedFrames := s.acceptedFrames
    choices := s.choices
    pending := s.pending }

/-- RESET_RELEASE (R1, R121): RST is released, house time counts from 0 and the clear operation begins.
With RST not low, nothing happens. -/
def execResetRelease (s : State) : Host.Outcome State Fault Refusal :=
  if s.rstLow then .next { s with rstLow := false, houseTime := 0, clearing := true } else .next s

end Sys2Proof.Machine
end

