-- ==== Sys2Proof/Machine/Notices.lean ====
section
/-! DEFINITION. The notice unit's commands (sections 10.2 and 10.3): SET_NOTICES and READ_NOTICES. -/

namespace Sys2Proof.Machine

/-- SET_NOTICES's effect and reply (R178). -/
def setNoticesBody (p : Port) (kinds : BitVec 16) (timing : Byte) (s : State) : State × Answer :=
  match readTiming timing with
  | none => refusal s .range
  | some t =>
    let q := { s.noticeQueue p with enabled := takenKinds kinds, timing := t }
    (s.setNoticeQueue p q, ⟨.ok, q.settingBytes⟩)

/-- SET_NOTICES (R178). -/
def execSetNotices (p : Port) (kinds : BitVec 16) (timing : Byte) (s : State) :
    Host.Outcome State Fault Refusal :=
  take p 0x60 (.setNotices p kinds timing) (setNoticesBody p kinds timing) s

/-- The oldest records leave the port's queue, up to 8 of them, and the overflowed flag is cleared; ATTN
follows (R181, R180). -/
def State.dropNotices (s : State) (p : Port) : State :=
  (s.setNoticeQueue p { s.noticeQueue p with
    queue := (s.noticeQueue p).queue.drop Config.noticeBatch
    overflowed := false }).refreshAttn p

/-- The records READ_NOTICES removes and reports (R181). -/
def NoticeQueue.batch (q : NoticeQueue) : List Notice := q.queue.take Config.noticeBatch

/-- READ_NOTICES's effect and reply (R181). -/
def readNoticesBody (p : Port) (s : State) : State × Answer :=
  let q := s.noticeQueue p
  (s.dropNotices p,
    ⟨.ok, flagByte q.overflowed ++ byte (q.queue.length - Config.noticeBatch)
      ++ byte q.batch.length ++ q.batch.flatMap Notice.bytes⟩)

/-- READ_NOTICES (R181). -/
def execReadNotices (p : Port) (s : State) : Host.Outcome State Fault Refusal :=
  take p 0x61 (.readNotices p) (readNoticesBody p) s

end Sys2Proof.Machine
end

