-- ==== Sys2Proof/Machine/Patterns.lean ====
section
/-! DEFINITION. The pattern memory (sections 7.1 to 7.3): the write settings, the write and read
commands, and the end of the clear operation. -/

namespace Sys2Proof.Machine

/-- The effective plane set of a write of port `p` (R123). -/
def State.effectiveSet (s : State) (p : Port) (planes : Byte) : BitVec 8 :=
  match (s.writeSetting p).mode with
  | .oneShot => planes
  | .held => (s.writeSetting p).heldSet

/-- A run of steps from `first`, each with its levels, is written into a row through a plane set
(R125). -/
def writeRun (m : List Host.Cell) (row first : Nat) (planes : BitVec 8) (ls : List Levels) :
    List Host.Cell :=
  (ls.foldl
    (fun (acc : List Host.Cell × Nat) l =>
      (writeLevels acc.1 (cellAddress row acc.2 0) planes l, acc.2 + 1))
    (m, first)).1

/-- The same levels are written into each of some steps of a row through a plane set (R126, R127). -/
def fillSteps (m : List Host.Cell) (row : Nat) (steps : List Nat) (planes : BitVec 8) (l : Levels) :
    List Host.Cell :=
  steps.foldl (fun m step => writeLevels m (cellAddress row step 0) planes l) m

/-- WRITE_STEPS's effect and reply (R125). -/
def writeStepsBody (p : Port) (row first count planes : Byte) (levels : List (BitVec 16)) (s : State) :
    State × Answer :=
  if row.toNat ≤ 127 ∧ first.toNat ≤ 63 ∧ count.toNat ≤ levels.length then
    let n := min count.toNat (64 - first.toNat)
    let eff := s.effectiveSet p planes
    ({ s with patternMem :=
        writeRun s.patternMem row.toNat first.toNat eff ((levels.take n).map unpackLevels) },
      ⟨takenStatus (decide (64 < first.toNat + count.toNat)), [row, first] ++ byte n ++ [eff]⟩)
  else refusal s .range

/-- WRITE_STEPS (R125). -/
def execWriteSteps (p : Port) (row first count planes : Byte) (levels : List (BitVec 16)) (s : State) :
    Host.Outcome State Fault Refusal :=
  take p 0x40 (.writeSteps p row first count planes levels)
    (afterClear (writeStepsBody p row first count planes levels)) s

/-- READ_STEPS's reply (R128): the row, the first step and the number returned before the levels, the
number serving as the list's count (log entry 7). -/
def readStepsBody (row first count : Byte) (s : State) : State × Answer :=
  if row.toNat ≤ 127 ∧ first.toNat ≤ 63 then
    let n := min count.toNat (64 - first.toNat)
    (s, ⟨takenStatus (decide (64 < first.toNat + count.toNat)),
      [row, first] ++ byte n ++ (List.range n).flatMap fun i =>
        levelsBytes (levelsAt s.patternMem (cellAddress row.toNat (first.toNat + i) 0))⟩)
  else refusal s .range

/-- READ_STEPS (R128). -/
def execReadSteps (p : Port) (row first count : Byte) (s : State) :
    Host.Outcome State Fault Refusal :=
  take p 0x41 (.readSteps p row first count) (afterClear (readStepsBody row first count)) s

/-- The mode and held set of a port, as LOAD_MASK and MASK_RESET reply them (R122, R124). -/
def WriteSettings.maskBytes (w : WriteSettings) : List Byte := byte w.mode.code ++ [w.heldSet]

/-- LOAD_MASK's effect and reply (R124). -/
def loadMaskBody (p : Port) (planes : Byte) (s : State) : State × Answer :=
  let w := { s.writeSetting p with mode := .held, heldSet := planes }
  (s.setWriteSetting p w, ⟨.ok, w.maskBytes⟩)

/-- LOAD_MASK (R124). -/
def execLoadMask (p : Port) (planes : Byte) (s : State) : Host.Outcome State Fault Refusal :=
  take p 0x42 (.loadMask p planes) (afterClear (loadMaskBody p planes)) s

/-- MASK_RESET's effect and reply (R124). -/
def maskResetBody (p : Port) (s : State) : State × Answer :=
  match (s.writeSetting p).mode with
  | .oneShot => (s, ⟨.already, (s.writeSetting p).maskBytes⟩)
  | .held =>
    let w := { s.writeSetting p with mode := .oneShot, heldSet := 0 }
    (s.setWriteSetting p w, ⟨.ok, w.maskBytes⟩)

/-- MASK_RESET (R124). -/
def execMaskReset (p : Port) (s : State) : Host.Outcome State Fault Refusal :=
  take p 0x43 (.maskReset p) (afterClear (maskResetBody p)) s

/-- LOAD_FILL's effect and reply (R124). -/
def loadFillBody (p : Port) (levels : BitVec 16) (s : State) : State × Answer :=
  (s.setWriteSetting p { s.writeSetting p with fill := unpackLevels levels },
    ⟨.ok, levelsBytes (unpackLevels levels)⟩)

/-- LOAD_FILL (R124). -/
def execLoadFill (p : Port) (levels : BitVec 16) (s : State) : Host.Outcome State Fault Refusal :=
  take p 0x44 (.loadFill p levels) (afterClear (loadFillBody p levels)) s

/-- The steps BLOCK_FILL writes: those of the four-step group whose positions are in the set; bits 4-7
name none (R126). -/
def blockSteps (step : Nat) (positions : Byte) : List Nat :=
  ([0, 1, 2, 3].filter fun j => positions.getLsbD j).map fun j => step / 4 * 4 + j

/-- BLOCK_FILL's effect and reply (R126). -/
def blockFillBody (p : Port) (row step positions planes : Byte) (s : State) : State × Answer :=
  if row.toNat ≤ 127 ∧ step.toNat ≤ 63 then
    let eff := s.effectiveSet p planes
    let steps := blockSteps step.toNat positions
    ({ s with patternMem := fillSteps s.patternMem row.toNat steps eff (s.writeSetting p).fill },
      ⟨.ok, [row] ++ byte (step.toNat / 4 * 4) ++ byte steps.length ++ steps.flatMap byte ++ [eff]⟩)
  else refusal s .range

/-- BLOCK_FILL (R126). -/
def execBlockFill (p : Port) (row step positions planes : Byte) (s : State) :
    Host.Outcome State Fault Refusal :=
  take p 0x45 (.blockFill p row step positions planes)
    (afterClear (blockFillBody p row step positions planes)) s

/-- ROW_FILL's effect and reply (R127). -/
def rowFillBody (p : Port) (row planes : Byte) (s : State) : State × Answer :=
  if row.toNat ≤ 127 then
    let eff := s.effectiveSet p planes
    ({ s with patternMem :=
        fillSteps s.patternMem row.toNat (List.range 64) eff (s.writeSetting p).fill },
      ⟨.ok, [row, eff]⟩)
  else refusal s .range

/-- ROW_FILL (R127). -/
def execRowFill (p : Port) (row planes : Byte) (s : State) : Host.Outcome State Fault Refusal :=
  take p 0x46 (.rowFill p row planes) (afterClear (rowFillBody p row planes)) s

/-- The clear operation has come to its end: house time has reached 4,000 (R121). -/
def State.clearDue (s : State) : Bool :=
  !s.rstLow && s.clearing && s.reached (BitVec.ofNat 64 Config.clearEnd)

/-- PATTERN_CLEAR_END (R121): every cell is 0. Before house time 4,000, or with no clear running, nothing
happens. -/
def execPatternClearEnd (s : State) : Host.Outcome State Fault Refusal :=
  if s.clearDue then .next { s with clearing := false, patternMem := [] } else .next s

end Sys2Proof.Machine
end

