-- ==== Sys2Proof/Machine/Time.lean ====
section
/-! DEFINITION. The passing of house time: which events are due, and what an idle step does. The spec's
table has no row for the advance of house time by itself, so it is what a step does when no command and
no event waits (log entry 9). -/

namespace Sys2Proof.Machine

/-- `i`, if `due`. -/
def eventIf (due : Bool) (i : Instr) : List Instr := if due then [i] else []

/-- The command in flight on port `p`, once its instant in the window of R164 has come. -/
def State.takingDue (s : State) (p : Port) : List Instr :=
  match (s.port p).inFlight with
  | some f => eventIf (s.due (s.port p).takeAt) (decodeFrame p f.code f.rest)
  | none => []

/-- The events due for lane `l`: its processing of a record, its pulse end and its run end (R153, R156,
R160). -/
def State.laneEvents (s : State) (l : Fin 16) : List Instr :=
  eventIf (s.laneRecord l).isSome (.laneProcessing l)
    ++ eventIf (s.due (s.lane l).pulseEnd) (.pulseEnd l)
    ++ eventIf (s.due (s.lane l).runEnd) (.runEnd l)

/-- Every event that is due at this house time, none while RST is low (R1, log entry 11). -/
def State.dueEvents (s : State) : List Instr :=
  if s.rstLow then []
  else
    eventIf s.clearDue .patternClearEnd
      ++ Port.all.flatMap s.takingDue
      ++ eventIf (s.arbiter.slot.isSome && s.due s.arbiter.waitExpiry) .waitTimerExpiry
      ++ eventIf (s.due s.arbiter.silenceExpiry) .silenceTimerExpiry
      ++ fourAll.flatMap (fun t => eventIf (s.due (s.tap t).deadline) (.tapSilenceDeadline t))
      ++ eventIf s.launchDue .launchStep
      ++ eventIf s.generatorDue .generatorStep
      ++ eventIf s.nextToSound.isSome .recordSounds
      ++ eventIf s.retireDue .recordRetires
      ++ eventIf s.drainingDue .drainingEnd
      ++ lanesAll.flatMap s.laneEvents

/-- The event an idle step takes: any of those that are due, freely chosen (log entry 4). -/
def State.chosenEvent (s : State) : Option Instr :=
  s.dueEvents[Config.eventChoice s.choices % s.dueEvents.length]?

/-- One more choice has been made (log entry 4). -/
def State.countChoice (s : State) : State := { s with choices := s.choices + 1 }

/-- House time goes on by 1 µs; while RST is low it stays (R1). -/
def State.tick (s : State) : State :=
  if s.rstLow then s else { s with houseTime := s.houseTime + 1 }

end Sys2Proof.Machine
end

