-- ==== Sys2Proof/Machine/Dispatch.lean ====
section
/-! DEFINITION. The dispatch: one direct call of a meaning for each row of the opcode table. -/

namespace Sys2Proof.Machine

/-- The effect of a command or event on everything but the queue of what waits. -/
def exec (i : Instr) (s : State) : Host.Outcome State Fault Refusal :=
  match i with
  | .reset => Sys2Proof.Machine.execReset s
  | .resetRelease => Sys2Proof.Machine.execResetRelease s
  | .patternClearEnd => Sys2Proof.Machine.execPatternClearEnd s
  | .commandFrame p code rest => Sys2Proof.Machine.execCommandFrame p code rest s
  | .fetchFrame p f => Sys2Proof.Machine.execFetchFrame p f s
  | .emptyFrame p => Sys2Proof.Machine.execEmptyFrame p s
  | .unknownCommand p code rest => Sys2Proof.Machine.execUnknownCommand p code rest s
  | .openPort p => Sys2Proof.Machine.execOpenPort p s
  | .closePort p => Sys2Proof.Machine.execClosePort p s
  | .setProfile p eligible rank silenceLimit attention => Sys2Proof.Machine.execSetProfile p eligible rank silenceLimit attention s
  | .readProfile p => Sys2Proof.Machine.execReadProfile p s
  | .readIdentity p => Sys2Proof.Machine.execReadIdentity p s
  | .setTempo p tempo glide => Sys2Proof.Machine.execSetTempo p tempo glide s
  | .nudge p delta => Sys2Proof.Machine.execNudge p delta s
  | .setMeter p meter => Sys2Proof.Machine.execSetMeter p meter s
  | .start p launch => Sys2Proof.Machine.execStart p launch s
  | .stop p quantize => Sys2Proof.Machine.execStop p quantize s
  | .locate p bar beat => Sys2Proof.Machine.execLocate p bar beat s
  | .gridReset p => Sys2Proof.Machine.execGridReset p s
  | .setHorizon p ms => Sys2Proof.Machine.execSetHorizon p ms s
  | .readPosition p => Sys2Proof.Machine.execReadPosition p s
  | .bid p kind wait tempo beatRef glide => Sys2Proof.Machine.execBid p kind wait tempo beatRef glide s
  | .yieldLead p => Sys2Proof.Machine.execYieldLead p s
  | .refuse p => Sys2Proof.Machine.execRefuse p s
  | .withdraw p => Sys2Proof.Machine.execWithdraw p s
  | .release p => Sys2Proof.Machine.execRelease p s
  | .keep p => Sys2Proof.Machine.execKeep p s
  | .handToTap p tap => Sys2Proof.Machine.execHandToTap p tap s
  | .readLeadership p => Sys2Proof.Machine.execReadLeadership p s
  | .waitTimerExpiry => Sys2Proof.Machine.execWaitTimerExpiry s
  | .silenceTimerExpiry => Sys2Proof.Machine.execSilenceTimerExpiry s
  | .tapEdge t => Sys2Proof.Machine.execTapEdge t s
  | .tapSilenceDeadline t => Sys2Proof.Machine.execTapSilenceDeadline t s
  | .setTap p tap k offset => Sys2Proof.Machine.execSetTap p tap k offset s
  | .tapClear p tap => Sys2Proof.Machine.execTapClear p tap s
  | .readTap p tap => Sys2Proof.Machine.execReadTap p tap s
  | .setAllocation p n => Sys2Proof.Machine.execSetAllocation p n s
  | .scheduleCue p cue => Sys2Proof.Machine.execScheduleCue p cue s
  | .cancelCue p id tag => Sys2Proof.Machine.execCancelCue p id tag s
  | .readCues p first => Sys2Proof.Machine.execReadCues p first s
  | .writeSteps p row first count planes levels => Sys2Proof.Machine.execWriteSteps p row first count planes levels s
  | .readSteps p row first count => Sys2Proof.Machine.execReadSteps p row first count s
  | .loadMask p planes => Sys2Proof.Machine.execLoadMask p planes s
  | .maskReset p => Sys2Proof.Machine.execMaskReset p s
  | .loadFill p levels => Sys2Proof.Machine.execLoadFill p levels s
  | .blockFill p row step positions planes => Sys2Proof.Machine.execBlockFill p row step positions planes s
  | .rowFill p row planes => Sys2Proof.Machine.execRowFill p row planes s
  | .loadRow p player row tap => Sys2Proof.Machine.execLoadRow p player row tap s
  | .halfLoad p player row tap => Sys2Proof.Machine.execHalfLoad p player row tap s
  | .setStepLength p player length => Sys2Proof.Machine.execSetStepLength p player length s
  | .readPlayer p player withRegister => Sys2Proof.Machine.execReadPlayer p player withRegister s
  | .claimLanes p first count => Sys2Proof.Machine.execClaimLanes p first count s
  | .releaseLanes p first count => Sys2Proof.Machine.execReleaseLanes p first count s
  | .claimPlayer p first count => Sys2Proof.Machine.execClaimPlayer p first count s
  | .releasePlayer p first count => Sys2Proof.Machine.execReleasePlayer p first count s
  | .setLane p lane settings => Sys2Proof.Machine.execSetLane p lane settings s
  | .mute p lanes => Sys2Proof.Machine.execMute p lanes s
  | .unmute p lanes => Sys2Proof.Machine.execUnmute p lanes s
  | .readLane p lane => Sys2Proof.Machine.execReadLane p lane s
  | .setNotices p kinds timing => Sys2Proof.Machine.execSetNotices p kinds timing s
  | .readNotices p => Sys2Proof.Machine.execReadNotices p s
  | .launchStep => Sys2Proof.Machine.execLaunchStep s
  | .generatorStep => Sys2Proof.Machine.execGeneratorStep s
  | .recordSounds => Sys2Proof.Machine.execRecordSounds s
  | .recordRetires => Sys2Proof.Machine.execRecordRetires s
  | .drainingEnd => Sys2Proof.Machine.execDrainingEnd s
  | .laneProcessing l => Sys2Proof.Machine.execLaneProcessing l s
  | .pulseEnd l => Sys2Proof.Machine.execPulseEnd l s
  | .runEnd l => Sys2Proof.Machine.execRunEnd l s

end Sys2Proof.Machine
end

