-- ==== Sys2Proof/Machine/Step.lean ====
section
/-! DEFINITION. One step of the part: the command or event at the front of the queue, or, with nothing
waiting, an event that is due, or the passing of one microsecond. -/

namespace Sys2Proof.Machine

/-- A step with nothing waiting: an event that is due, or the passing of house time (log entry 9). -/
def State.idle (s : State) : Host.Outcome State Fault Refusal :=
  match s.chosenEvent with
  | some i => exec i s.countChoice
  | none => .next s.tick

/-- One step. -/
def step (s : State) : Host.Outcome State Fault Refusal :=
  match s.pending with
  | i :: rest => exec i { s with pending := rest }
  | [] => s.idle

/-- `s` with the command that a word spells at the front of its queue; the table gives no row any bits,
so no word spells one (log entry 10). -/
def State.withFetchWord (s : State) (nbits w : Nat) : State :=
  match decodeTableWord nbits w with
  | some i => { s with pending := i :: s.pending }
  | none => s

end Sys2Proof.Machine
end

