-- ==== Sys2Proof/WellFormed.lean ====
section
/-! DEFINITION. Which terms of `Instr` stand for something a desk port can send. The fields are raw
wire values, so most terms are well formed by their types; three rows need a check. -/

namespace Sys2Proof

/-- A term is well formed when a frame or an event can be what it says: a COMMAND_FRAME does not begin
with the fetch code (R163); an UNKNOWN_COMMAND's bytes spell no command (R167, R175); WRITE_STEPS
carries no more levels than a declared length of 255 holds (section 9.6). -/
def Instr.wellFormed : Instr → Bool
  | .commandFrame _ code _ => decide (code ≠ fetchCode)
  | .unknownCommand p code rest =>
    decide (code ≠ fetchCode) && decide (decodeFrame p code rest = .unknownCommand p code rest)
  | .writeSteps _ _ _ _ _ levels => decide (levels.length ≤ 125)
  | _ => true

end Sys2Proof
end

