-- ==== Sys2Proof/Safety.lean ====
section
/-! DEFINITION. The terms claims are stated in: when a command of a port is taken and in which state it
finds the part, and, block by block, what the spec says holds of the part at every instant. -/

namespace Sys2Proof.Machine

/-! ### The taking of a command -/

/-- The command `i` of port `p` can be taken: RST is released, and either READY is high, so that its frame
ends and it is taken at one instant, or it is the command in flight (R164, log entry 8). -/
def State.canTake (s : State) (p : Port) (i : Instr) : Prop :=
  s.rstLow = false ∧ ((s.port p).ready = true ∨ s.awaits p i = true)

/-- The part as the command `i` of port `p` finds it: with READY high its frame's end comes first, with
data-out zeros and the leader's silence timer restarted (R69, R163). -/
def State.heard (s : State) (p : Port) (i : Instr) : State :=
  if (s.port p).ready then s.frameEnds p (List.replicate (frameBytes i).length 0) else s

/-- A command of an open port that can be taken. -/
def State.canCommand (s : State) (p : Port) (i : Instr) : Prop :=
  s.canTake p i ∧ (s.port p).isOpen = true

/-- A leader's command that can be taken (R56). -/
def State.canLead (s : State) (p : Port) (i : Instr) : Prop :=
  s.canCommand p i ∧ s.arbiter.leader = .port p

/-- `t` is what is left when the command of code `code` of port `p` is answered in state `u` with a status
and a payload (R164). -/
def answers (p : Port) (code : Byte) (st : Status) (payload : List Byte) (u : State) :
    Host.Outcome State Fault Refusal :=
  .next (u.answered p code ⟨st, payload⟩)

/-! ### The making of a record -/

/-- The launch step, or another generator step, is due and comes to the making of a record: no stop point
stands at its position, and no STOP cue sets one (R28, R29). -/
def State.makesRecord (s : State) (launch : Bool) : Prop :=
  (if launch then s.launchDue else s.generatorDue) = true
    ∧ s.transport.stopPoint ≠ some s.gen.position ∧ s.fireCues.stop = false

/-- The command of the step that makes a record. -/
def stepRow (launch : Bool) : Instr := if launch then .launchStep else .generatorStep

/-- The engine under which the record is made: as the fired cues leave it, a pending meter applied at a
bar start (R19, R29). -/
def State.recordEngine (s : State) : Engine :=
  if s.gen.position.barStart then s.fireCues.state.engine.applyMeter else s.fireCues.state.engine

/-- Player `j` after the record, whether it begins a step there, and whether it crosses (R131 to R133). -/
def State.recordPlayer (s : State) (launch : Bool) (j : Fin 4) : Player × Bool × Bool :=
  (s.fireCues.state.player j).atRecord launch s.gen.position.barStart s.gen.position.index

/-- The record is that of the last pulse of its bar (R16, R107). -/
def State.endsBar (s : State) : Prop :=
  95 ≤ s.gen.position.pulse ∧ s.recordEngine.meter ≤ s.gen.position.beat

/-- A cue after the record of its bar's last pulse: one that lies beyond a short bar is carried to the next
bar start (R107, log entry 14). -/
def State.carriedCue (s : State) (c : Cue) : Cue :=
  if c.fire.bar = s.gen.position.bar ∧ s.recordEngine.meter < c.fire.beat then
    { c with
      fire := if s.gen.position.bar < 65535 then ⟨s.gen.position.bar + 1, 1, 0⟩ else ⟨1, 1, 0⟩
      carried := true }
  else c

/-! ### The grid -/

/-- A position that can occur in a bar of `m` beats (section 1.7). -/
def Position.Legal (m : Nat) (x : Position) : Prop :=
  1 ≤ x.bar ∧ x.bar ≤ 65535 ∧ 1 ≤ x.beat ∧ x.beat ≤ m ∧ x.pulse ≤ 95

/-- An interval between I_min and I_max (R6). -/
def IntervalLegal (i : Nat) : Prop := 136533333 ≤ i ∧ i ≤ 2048000000

/-- The glide in progress does not overshoot: the steps that are left lie between the interval and the
target (R9). -/
def Engine.GlideLegal (e : Engine) : Prop :=
  (0 ≤ e.glideStep ∧ e.glideStep * e.glideCount ≤ (e.glideTarget : Int) - e.interval)
    ∨ (e.glideStep ≤ 0 ∧ (e.glideTarget : Int) - e.interval ≤ e.glideStep * e.glideCount)

/-- The tempo engine's items lie in the ranges of section 1.3 (R6, R9, R13). -/
def Engine.Legal (e : Engine) : Prop :=
  IntervalLegal e.interval ∧ IntervalLegal e.glideTarget ∧ e.glideCount ≤ 6144
    ∧ (0 < e.glideCount → e.GlideLegal)
    ∧ e.slip.natAbs ≤ 98304000000
    ∧ 1 ≤ e.meter ∧ e.meter ≤ 16
    ∧ ∀ m, e.pendingMeter = some m → 1 ≤ m ∧ m ≤ 16

/-- A cue's arguments lie in their ranges (R103). -/
def CueAction.Legal : CueAction → Prop
  | .mute lanes => lanes ≠ 0
  | .unmute lanes => lanes ≠ 0
  | .loadRow _ row tap => row ≤ 127 ∧ tap ≤ 63
  | .halfLoad _ row tap => row ≤ 127 ∧ tap ≤ 31
  | .tempo c g => 2000 ≤ c ∧ c ≤ 30000 ∧ g ≤ 64
  | .meter m => 1 ≤ m ∧ m ≤ 16
  | .stop => True
  | .mark => True

/-- A pending bid's fields lie in their ranges (R58). -/
def Bid.Legal (b : Bid) : Prop :=
  b.wait ≤ 600 ∧ (b.kind = .matched → 2000 ≤ b.tempo ∧ b.tempo ≤ 30000 ∧ b.glide ≤ 64)

/-- The grid: the engine in its ranges, the generator at a position of the bar in progress, and every
tempo and meter that waits in a cue or a bid in its range (R6, R16, R58, R103). -/
def State.GridInv (s : State) : Prop :=
  s.engine.Legal ∧ s.gen.position.Legal s.engine.meter
    ∧ (∀ c ∈ s.cues, c.action.Legal) ∧ ∀ b, s.arbiter.slot = some b → b.Legal

/-! ### The transport and the horizon queue -/

/-- What the table of section 2.1 gives for a state. -/
def Transport.Legal (tr : Transport) (queueEmpty : Bool) (x : Position) : Prop :=
  match tr.state with
  | .stopped => queueEmpty = true ∧ tr.launchTime = none ∧ tr.stopPoint = none ∧ tr.rLast = none
  | .armed => queueEmpty = true ∧ tr.launchTime.isSome ∧ tr.stopPoint = none ∧ tr.rLast = none
  | .running => tr.launchTime.isSome ∧ tr.stopPoint = none ∧ tr.rLast = none
  | .stopPending => tr.launchTime.isSome ∧ tr.stopPoint.isSome ∧ tr.rLast = none
  | .draining => tr.launchTime.isSome ∧ tr.stopPoint = some x ∧ tr.rLast.isSome

/-- Each record's pulse number is one more, modulo 2^32, than that of the record before it (R48). -/
def PulsesRise (q : List PulseRecord) : Prop :=
  q.IsChain fun r r' => r'.pulse = r.pulse + 1

/-- The transport and the horizon queue: the table of section 2.1, the horizon's range, no last beat start
before a run's first record, and pulse numbers rising by one along the queue to the next one (R23, R40,
R48). -/
def State.RunInv (s : State) : Prop :=
  s.transport.Legal s.queue.isEmpty s.gen.position
    ∧ s.transport.horizonMs ≤ 250
    ∧ (s.transport.state = .stopped ∨ s.transport.state = .armed → s.lastBeat = none)
    ∧ PulsesRise s.queue
    ∧ (s.making = true → ∀ r, s.queue.getLast? = some r → s.gen.pulse = r.pulse + 1)

/-- The instants along the queue: nothing of it runs while RST is low; an ARMED launch time lies H to 60 s
ahead; while records are made the next one lies H ahead and at most a pulse and its slip more; a record stands
from H before its reference time to 250,001 µs after it; and reference times rise by at least 2018 µs from each
record to the next, the one that is still to be made included (R1, R8, R26, R29, R41, R48, R50). -/
def State.QueueInv (s : State) : Prop :=
  let now := s.houseTime.toNat
  let next := s.gen.n.toNat / 65536
  (s.rstLow = true → s.transport.state = .stopped)
    ∧ (∀ t, s.transport.state = .armed → s.transport.launchTime = some t →
      now + s.horizonUs ≤ t.toNat ∧ t.toNat ≤ now + 60000000)
    ∧ (s.making = true → now + s.horizonUs ≤ next ∧ next ≤ now + s.horizonUs + 32228)
    ∧ (∀ r ∈ s.queue,
      now ≤ r.refTime.toNat + 250001 ∧ r.refTime.toNat ≤ now + s.horizonUs)
    ∧ s.queue.IsChain (fun r r' => r.refTime.toNat + 2018 ≤ r'.refTime.toNat)
    ∧ (s.making = true → ∀ r, s.queue.getLast? = some r → r.refTime.toNat + 2018 ≤ next)

/-! ### Leadership -/

/-- The leader is none, an open and eligible port, or a STEADY tap, and follow mode is the leading tap's
(R55, R89). -/
def State.LeaderLegal (s : State) : Prop :=
  (∀ p, s.arbiter.leader = .port p → (s.port p).isOpen = true ∧ (s.port p).eligible = true)
    ∧ (∀ t, s.arbiter.leader = .tap t → (s.tap t).state = .steady)
    ∧ ∀ t, (s.tap t).follow = true ↔ s.arbiter.leader = .tap t

/-- A pending bid stands against a leading port, from another port that is open and eligible and whose rank
it carries (R58). -/
def State.SlotLegal (s : State) : Prop :=
  ∀ b, s.arbiter.slot = some b →
    (∃ y, s.arbiter.leader = .port y ∧ y ≠ b.bidder)
      ∧ (s.port b.bidder).isOpen = true ∧ (s.port b.bidder).eligible = true
      ∧ (s.port b.bidder).rank = b.rank

/-- The wait timer runs exactly while a bid with a wait limit waits, and the silence timer exactly while a
port with a silence limit leads (R54). -/
def State.TimersLegal (s : State) : Prop :=
  (s.arbiter.waitExpiry.isSome = true ↔ ∃ b, s.arbiter.slot = some b ∧ b.wait ≠ 0)
    ∧ (s.arbiter.silenceExpiry.isSome = true ↔
      ∃ p, s.arbiter.leader = .port p ∧ (s.port p).silenceLimit ≠ 0)

/-- The lead arbiter: a lawful leader, a lawful slot, the timers that go with them, and no pending slip
while nobody leads (R22, R54, R55, R58). -/
def State.LeadInv (s : State) : Prop :=
  s.LeaderLegal ∧ s.SlotLegal ∧ s.TimersLegal
    ∧ (s.arbiter.leader = .nobody → s.engine.slip = 0)
    ∧ ∀ t, (s.tap t).state = tapStateOf (s.tap t).ring.length

/-! ### Taps -/

/-- One tap: k and the offset in their ranges, a ring of at most 8, the state, the measured values and the
deadline following the ring, and no suspect flag below three edges (section 5.1, R82, R84, R87). -/
def Tap.Legal (tap : Tap) : Prop :=
  (tap.k = 1 ∨ tap.k = 2 ∨ tap.k = 4 ∨ tap.k = 24)
    ∧ tap.offset.natAbs ≤ 250000
    ∧ tap.ring.length ≤ 8
    ∧ tap.state = tapStateOf tap.ring.length
    ∧ tap.measuredInterval = measuredIntervalOf tap.k tap.ring
    ∧ tap.measuredTempo = tap.measuredInterval.map tempoOf
    ∧ (tap.suspect = true → 3 ≤ tap.ring.length)
    ∧ (tap.deadline.isSome = true ↔ tap.ring ≠ [])

/-- The four taps. -/
def State.TapInv (s : State) : Prop := ∀ t, (s.tap t).Legal

/-! ### Cues -/

/-- The pool: ids below 128 and all different, cues in ascending order of fire position, none before the
generator position, every port within its allocation, and at most 128 allocated (R98, R99, R106). -/
def State.PoolInv (s : State) : Prop :=
  (∀ c ∈ s.cues, c.id < 128)
    ∧ s.cues.Pairwise (fun c d => c.id ≠ d.id)
    ∧ s.cues.Pairwise (fun c d => d.fire.before c.fire = false)
    ∧ (∀ c ∈ s.cues, 1 ≤ c.fire.beat ∧ c.fire.pulse ≤ 95 ∧ c.fire.before s.gen.position = false)
    ∧ (1 ≤ s.gen.position.beat ∧ s.gen.position.pulse ≤ 95)
    ∧ (∀ p, s.cueCount p ≤ s.allocation p)
    ∧ s.allocated ≤ 128

/-! ### Patterns and players -/

/-- The pattern memory and the four play registers hold levels at addresses that exist, in canonical
form (R120, section 7.4). -/
def State.MemoryInv (s : State) : Prop :=
  Memory.wf cellsInMemory s.patternMem = true
    ∧ ∀ i, Memory.wf cellsPerRow (s.player i).register = true

/-- One player: its items in their ranges, a half tap only in the half without the cursor and never beside
a row jump, and nothing placed while UNPRIMED (section 7.4, R129, R132). -/
def Player.Legal (pl : Player) : Prop :=
  pl.cursor ≤ 63 ∧ pl.home ≤ 63 ∧ 1 ≤ pl.stepLength ∧ pl.stepLength ≤ 96
    ∧ (∀ l, pl.pendingLength = some l → 1 ≤ l ∧ l ≤ 96)
    ∧ pl.sourceLower ≤ 127 ∧ pl.sourceUpper ≤ 127
    ∧ (∀ h t, pl.halfTap = some (h, t) → t ≤ 31 ∧ h ≠ halfOf pl.cursor ∧ pl.rowJump = none)
    ∧ (∀ j, pl.rowJump = some j → j ≤ 63)
    ∧ (pl.primed = false →
      pl.cursor = 0 ∧ pl.home = 0 ∧ pl.halfTap = none ∧ pl.rowJump = none)

/-- The four players, and the rows and taps that wait in cues. -/
def State.PlayerInv (s : State) : Prop :=
  (∀ i, (s.player i).Legal) ∧ ∀ c ∈ s.cues, c.action.Legal

/-! ### Lanes and claims -/

/-- A settings record in its ranges under a horizon of `h` µs (section 8.2, R149). -/
def LaneSettings.Legal (g : LaneSettings) (h : Nat) : Prop :=
  1 ≤ g.divisor ∧ g.divisor ≤ 384 ∧ g.phase < g.divisor
    ∧ (1 ≤ g.clockWidth ∧ g.clockWidth ≤ 100000) ∧ (1 ≤ g.soft ∧ g.soft ≤ 100000)
    ∧ (1 ≤ g.normal ∧ g.normal ≤ 100000) ∧ (1 ≤ g.accent ∧ g.accent ≤ 100000)
    ∧ -(h : Int) ≤ g.offset ∧ g.offset ≤ 250000

/-- One lane under a horizon of `h` µs: a cursor exactly while it is not OFF, an ACTIVE output only for a
pulse or a run, and a run only in RUN mode (R152, R155, R156, R159). -/
def Lane.Legal (l : Lane) (h : Nat) : Prop :=
  l.settings.Legal h
    ∧ (l.cursor = none ↔ l.settings.mode = .off)
    ∧ (l.settings.mode = .off → l.pulseEnd = none)
    ∧ (l.output = .active → l.pulseEnd.isSome = true ∨ l.runFlag = true)
    ∧ (l.runFlag = true → l.settings.mode = .run)
    ∧ (l.runEnd.isSome = true → l.runFlag = true)

/-- Lane `l`, number `i`, after it has passed over record `r` at house time `now`: it takes its lane change,
sets its run flag at a launch marker in RUN mode, and takes note of a last marker, and begins no pulse (R154,
R160, log entries 18 and 29). -/
def Lane.passedOver (i : Fin 16) (now : Time) (r : PulseRecord) (l : Lane) : Lane :=
  let mute :=
    match r.laneChanges.find? (fun c => decide (c.lane = i)) with
    | some c => c.value
    | none => l.mute
  let run := l.runFlag || (decide (l.settings.mode = .run) && r.markers.launch)
  let runEnd : Time :=
    r.refTime + BitVec.ofInt 64 (l.settings.offset + ((r.interval / 65536 : Nat) : Int))
  if r.markers.last = true ∧ l.settings.mode = .run ∧ run = true then
    if runEnd.toNat ≤ now.toNat then
      { l with mute := mute, runFlag := false, output := .inactive, runEnd := none }
    else { l with mute := mute, runFlag := true, runEnd := some runEnd }
  else { l with mute := mute, runFlag := run }

/-- `e` is lane `d`, number `i`, after it has seated its cursor over the queue `q` at house time `now`, its
settings already the new ones. With no cursor, it goes to the first record whose R + o is still to come, or to
the next one to be generated, and in RUN mode to one after the launch record (log entry 30). A cursor on that next one, or on a record whose R + o is still to come, stays. From
any other record of the queue the lane passes over the records whose R + o has come, oldest first (R152,
R154, R155). -/
def Lane.Reseats (i : Fin 16) (now : Time) (q : List PulseRecord) (d e : Lane) : Prop :=
  let come : PulseRecord → Prop := fun r =>
    (r.refTime + BitVec.ofInt 64 d.settings.offset).toNat ≤ now.toNat
  let launch : PulseRecord → Prop := fun r => d.settings.mode = .run ∧ r.markers.launch = true
  let seat : List PulseRecord → Cursor := fun
    | r :: _ => .at r.pulse
    | [] => .next
  (d.cursor = some .next → e = d)
    ∧ (∀ n, d.cursor = some (.at n) → (∀ r ∈ q, r.pulse ≠ n) → e = d)
    ∧ (∀ past ahead, q = past ++ ahead → d.cursor = none → (∀ r ∈ past, come r ∨ launch r) →
      (∀ r, ahead.head? = some r → ¬ come r ∧ ¬ launch r) → e = { d with cursor := some (seat ahead) })
    ∧ ∀ old passed ahead r, q = old ++ (passed ++ ahead) → (passed ++ ahead).head? = some r →
      (∀ x ∈ old, x.pulse ≠ r.pulse) → d.cursor = some (.at r.pulse) → (∀ x ∈ passed, come x) →
      (∀ x, ahead.head? = some x → ¬ come x) →
      (passed = [] → e = d)
      ∧ (passed ≠ [] → e =
        { passed.foldl (fun l x => l.passedOver i now x) d with cursor := some (seat ahead) })

/-- The sixteen lanes. -/
def State.LaneInv (s : State) : Prop := ∀ i, (s.lane i).Legal s.horizonUs

/-- Lanes and players are held only by open ports (R142). -/
def State.ClaimsInv (s : State) : Prop :=
  (∀ l p, s.laneHolder l = some p → (s.port p).isOpen = true)
    ∧ ∀ i p, s.playerHolder i = some p → (s.port p).isOpen = true

/-! ### Desk ports and notices -/

/-- One port: its profile in its ranges, and READY low exactly while a command is in flight, with an instant
for its taking (section 9.1, R164, R171). -/
def DeskPort.Legal (d : DeskPort) : Prop :=
  d.rank ≤ 3 ∧ d.silenceLimit ≤ 100
    ∧ (d.ready = false ↔ d.inFlight.isSome = true)
    ∧ (d.takeAt.isSome = true ↔ d.inFlight.isSome = true)

/-- The four ports. -/
def State.PortInv (s : State) : Prop := ∀ p, (s.port p).Legal

/-- The notice unit: at most 16 records a queue, HANDOVER_REQUEST always enabled and no kind beyond the
eleven, nothing kept for a CLOSED port, and ATTN as R180 gives it (R176, R178, R180). -/
def State.NoticeInv (s : State) : Prop :=
  ∀ p,
    (s.noticeQueue p).queue.length ≤ 16
      ∧ (s.noticeQueue p).enabled.getLsbD 1 = true
      ∧ (s.noticeQueue p).enabled &&& 0x0FFE = (s.noticeQueue p).enabled
      ∧ ((s.port p).isOpen = false →
        (s.noticeQueue p).queue = [] ∧ (s.noticeQueue p).overflowed = false)
      ∧ ((s.port p).attn = true ↔
        (s.noticeQueue p).queue ≠ [] ∧ (s.port p).attention = true)

end Sys2Proof.Machine
end

