-- ==== Sys2Proof/Certificates/Slice0/Obligations.lean ====
section
/-! DEFINITION. What is claimed of the model, in the order of the spec's chapters behind the claims about the
machine as a whole. A command's statement gives its next state as an equation: the state the command finds
(`State.heard`: the part once its frame has ended), the fields its rule changes, and the answer. That a command's own
row may come with READY high, its frame ending and being taken at one instant, is the model's choice (log entry
8). -/

open Sys2Proof Sys2Proof.Machine

/-! ### The machine -/

/-- A step takes the command or event at the front of the queue and is its effect on the part. The queue is
the model's own (log entry 9). -/
def Obligations.StepRunsFrontCommand : Prop :=
  ∀ (c : Instr) (rest : List Instr) (s : State), s.pending = c :: rest →
    step s = exec c { s with pending := rest }

/-- With nothing waiting, a step takes one of the events that are due, or else house time goes on by 1 µs,
and stands while RST is low (section 1.1). That an idle step does this is the model's choice (log
entries 4 and 9). -/
def Obligations.IdleStepTakesDueEventOrTicks : Prop :=
  ∀ s : State, s.pending = [] →
    (s.rstLow = true → step s = .next s)
    ∧ (s.rstLow = false → s.dueEvents = [] → step s = .next { s with houseTime := s.houseTime + 1 })
    ∧ (s.dueEvents ≠ [] →
      ∃ i ∈ s.dueEvents, step s = exec i { s with choices := s.choices + 1 })

/-- RESET sets every block to its power-on values with house time 0; while RST is low no frame is taken, no
tap edge is captured and house time stands; RESET_RELEASE lets house time count from 0 and begins the clear
(sections 1.1, 1.3, 2.1, 3.1, 4.1, 5.1, 6.1, 7.2, 7.4, 8.2, 9.1, 10.1). That the pattern cells stand until the
clear ends is the model's choice (log entry 2). So is what stands
through RESET of the model's own fields, and that RESET_RELEASE with RST high changes nothing (log entries 3, 4,
9 and 22). -/
def Obligations.ResetSetsPowerOnValuesAndHolds : Prop :=
  (∀ s : State,
     (∃ t, exec .reset s = .next t
       ∧ t.rstLow = true ∧ t.houseTime = 0
       ∧ t.engine = ⟨341333333, 341333333, 0, 0, 0, 4, none⟩
       ∧ t.transport = ⟨.stopped, 20, none, none, none⟩
       ∧ t.gen = ⟨⟨1, 1, 0⟩, 0, 0⟩ ∧ t.queue = [] ∧ t.lastBeat = none
       ∧ t.arbiter = ⟨.nobody, none, none, none⟩
       ∧ (∀ k, t.tap k = ⟨1, 0, [], .silent, false, none, none, none, none, false⟩)
       ∧ t.cues = [] ∧ (∀ p, t.allocation p = 32)
       ∧ t.patternMem = s.patternMem
       ∧ (∀ p, t.writeSetting p = ⟨.oneShot, 0, Vector.replicate 8 0⟩)
       ∧ (∀ i, t.player i = ⟨false, [], 0, 0, 0, 0, 6, none, none, none⟩)
       ∧ (∀ l, t.laneHolder l = none) ∧ (∀ i, t.playerHolder i = none)
       ∧ (∀ l, t.lane l =
         ⟨⟨.off, 24, 0, .bar, 5000, 10000, 20000, 40000, 0, 0, 0, .activeHigh⟩,
           .unmuted, none, .inactive, none, false, none, 0⟩)
       ∧ (∀ p, t.port p = ⟨false, true, 0, 20, true, none, none, true, false, 0, none, []⟩)
       ∧ (∀ p, t.noticeQueue p = ⟨[], false, 0b101111111110, .arm⟩)
       ∧ t.acceptedFrames = s.acceptedFrames ∧ t.choices = s.choices ∧ t.pending = s.pending)
     ∧ (s.rstLow = true → exec .resetRelease s =
         .next { s with rstLow := false, houseTime := 0, clearing := true })
     ∧ (s.rstLow = false → exec .resetRelease s = .next s))
  ∧ (∀ (i : Instr) (s : State), s.rstLow = true →
       ((i.port?.isSome = true ∨ ∃ k, i = .tapEdge k) → exec i s = .next s)
       ∧ (s.pending = [] → step s = .next s))

/-! ### Frames -/

/-- COMMAND_FRAME with READY high is held as the command in flight, READY goes low, and the instant of its
taking lies within 20 µs; with READY low it is ignored with an OVERRUN notice. FETCH_FRAME shifts out the
current reply and then zeros, or zeros where there is none or the frame began while READY was low, and
EMPTY_FRAME nothing; neither changes anything but data-out, and both restart the silence timer of the leader's
port with its limit (sections 4.4, 9.2). That the instant of the taking is set when the frame ends is the
model's choice (log entry 3). So are data-out as a part of the state, the sender's word on READY at a fetch
frame's beginning, and zeros where READY is still low at its end (log entry 6); that the bytes of the frame are
held in flight with its code is the model's reading (log entry 23). -/
def Obligations.FramesAreAcceptedFetchedOrIgnored : Prop :=
  (∀ (p : Port) (code : Byte) (rest : List Byte) (s : State), s.rstLow = false → code ≠ 0x80 →
     let zeros := List.replicate (rest.length + 1) (0 : Byte)
     let u := s.frameEnds p zeros
     ((s.port p).ready = true → ∃ d : Nat, d ≤ 20
       ∧ exec (.commandFrame p code rest) s = .next
           { u.setPort p { s.port p with
               dataOut := zeros, inFlight := some ⟨code, rest⟩, ready := false
               takeAt := some (s.houseTime + BitVec.ofNat 64 d) } with
             acceptedFrames := s.acceptedFrames + 1 })
     ∧ ((s.port p).ready = false →
       exec (.commandFrame p code rest) s = .next (u.postAt p (.overrun code) none)))
  ∧ (∀ (p : Port) (n : Nat) (low : Bool) (s : State), s.rstLow = false →
       let arb := { s.arbiter with
         silenceExpiry :=
           if s.arbiter.leader = .port p then
             if (s.port p).silenceLimit = 0 then none
             else some (s.houseTime + BitVec.ofNat 64 ((s.port p).silenceLimit * 100000))
           else s.arbiter.silenceExpiry }
       exec (.emptyFrame p) s =
         .next { s.setPort p { s.port p with dataOut := [] } with arbiter := arb }
       ∧ (∀ r, (s.port p).reply = some r →
           exec (.fetchFrame p ⟨n, low⟩) s =
             .next { s.setPort p { s.port p with
                 dataOut :=
                   ((if low = false ∧ (s.port p).ready = true then
                       r.status.code :: r.code :: (toBytes 2 r.payload.length ++ r.payload)
                     else [0, 0, 0, 0]) ++ List.replicate n 0).take n } with arbiter := arb })
       ∧ ((s.port p).reply = none →
           exec (.fetchFrame p ⟨n, low⟩) s =
             .next { s.setPort p { s.port p with dataOut := List.replicate n 0 } with arbiter := arb }))

/-- UNKNOWN_COMMAND, a frame that spells no command, is answered by the first check it fails: BAD_FRAME,
UNKNOWN, NOT_OPEN, BAD_FRAME, with its code echoed and no payload (sections 9.2, 9.7). -/
def Obligations.UnspelledFrameIsAnswered : Prop :=
  ∀ (p : Port) (code : Byte) (rest : List Byte) (s : State), code ≠ 0x80 →
    decodeFrame p code rest = .unknownCommand p code rest →
    s.canTake p (.unknownCommand p code rest) →
    exec (.unknownCommand p code rest) s =
      answers p code
        (if frameComplete rest = false then .badFrame
         else if commandLength code = none then .unknown
         else if (s.port p).isOpen = false ∧ code ∉ [0x01, 0x05, 0x18, 0x32, 0x27] then .notOpen
         else .badFrame)
        [] (s.heard p (.unknownCommand p code rest))

/-- A command of a CLOSED port is answered NOT_OPEN, with its code echoed, no payload and nothing changed,
but for OPEN, READ_IDENTITY, READ_POSITION, READ_TAP and READ_LEADERSHIP, which never are
(section 9.2). -/
def Obligations.ClosedPortIsAnsweredNotOpen : Prop :=
  ∀ (i : Instr) (p : Port) (code : Byte) (payload : List Byte) (s : State),
    commandPayload i = some (code, payload) → i.port? = some p → s.canTake p i →
    (s.port p).isOpen = false →
    (code ∉ [0x01, 0x05, 0x18, 0x32, 0x27] → exec i s = answers p code .notOpen [] (s.heard p i))
    ∧ (code ∈ [0x01, 0x05, 0x18, 0x32, 0x27] →
      ∃ st reply u, st ≠ .notOpen ∧ exec i s = answers p code st reply u)

/-- A leader-only command of an open port that does not lead is refused NOT_LEADER, whatever its fields,
and nothing changes; so is a SCHEDULE_CUE whose action is TEMPO, METER or STOP (sections 2.1, 4.1). -/
def Obligations.NonLeaderIsRefused : Prop :=
  (∀ (i : Instr) (p : Port) (code : Byte) (payload : List Byte) (s : State),
    commandPayload i = some (code, payload) → i.port? = some p → s.canCommand p i →
    s.arbiter.leader ≠ .port p →
    code ∈ [0x10, 0x11, 0x12, 0x13, 0x14, 0x15, 0x16, 0x26, 0x21, 0x22, 0x23, 0x25] →
    exec i s = answers p code .notLeader [] (s.heard p i))
  ∧ ∀ (p : Port) (c : RawCue) (s : State), s.canCommand p (.scheduleCue p c) →
    s.arbiter.leader ≠ .port p → c.action ∈ [4, 5, 6] →
    exec (.scheduleCue p c) s = answers p 0x39 .notLeader [] (s.heard p (.scheduleCue p c))

/-- While the clear runs, every pattern and player command of an open port is answered BUSY and changes
nothing, whatever its fields (section 7.1). -/
def Obligations.PatternCommandsAreBusyDuringClear : Prop :=
  ∀ (i : Instr) (p : Port) (code : Byte) (payload : List Byte) (s : State),
    commandPayload i = some (code, payload) → i.port? = some p → s.canCommand p i →
    s.clearing = true →
    code ∈ [0x40, 0x41, 0x42, 0x43, 0x44, 0x45, 0x46, 0x48, 0x49, 0x4A, 0x4B] →
    exec i s = answers p code .busy [] (s.heard p i)

/-! ### Desk ports -/

/-- OPEN opens a closed port, answers ALREADY from an open one, and reports the profile, the allocation, the
notice settings and the session number. CLOSE is one event: the port is CLOSED with the next session
number, its bid and its leadership are gone, its claims, cues, write settings and notices are torn down, and
its profile, notice settings and allocation stand (section 9.4). Where it led, the pending bid is granted with
route CLOSED, or with none the other ports are told FREEWHEEL CLOSED (section 4.6). The slot is taken as lawful:
`State.LeadInv` is kept by every step. -/
def Obligations.OpenAndCloseAPort : Prop :=
  (∀ (p : Port) (s : State), s.canTake p (.openPort p) →
    let d := s.port p
    let u := s.heard p (.openPort p)
    let report : List Byte :=
      [if d.eligible then 1 else 0] ++ toBytes 1 d.rank ++ toBytes 1 d.silenceLimit
        ++ [if d.attention then 1 else 0] ++ toBytes 1 (s.allocation p)
        ++ toBytes 2 (s.noticeQueue p).enabled.toNat ++ toBytes 1 (s.noticeQueue p).timing.code
        ++ toBytes 4 d.session.toNat
    exec (.openPort p) s =
      if d.isOpen then answers p 0x01 .already report u
      else answers p 0x01 .ok report (u.setPort p { u.port p with isOpen := true }))
  ∧ ∀ (p : Port) (s : State), s.canCommand p (.closePort p) → s.SlotLegal →
    ∃ t, exec (.closePort p) s = answers p 0x02 .ok [] t
      ∧ t.port p = { (s.heard p (.closePort p)).port p with
          isOpen := false, session := (s.port p).session + 1, attn := false }
      ∧ (∀ q, q ≠ p → t.port q = { s.port q with attn := (t.port q).attn })
      ∧ t.noticeQueue p = { s.noticeQueue p with queue := [], overflowed := false }
      ∧ t.writeSetting p = ⟨.oneShot, 0, Vector.replicate 8 0⟩
      ∧ (∀ q, q ≠ p → t.writeSetting q = s.writeSetting q)
      ∧ (∀ l, t.laneHolder l = if s.laneHolder l = some p then none else s.laneHolder l)
      ∧ (∀ i, t.playerHolder i = if s.playerHolder i = some p then none else s.playerHolder i)
      ∧ t.cues = s.cues.filter (fun c => decide (c.owner ≠ p))
      ∧ t.allocations = s.allocations
      ∧ t.arbiter.leader ≠ .port p
      ∧ (s.arbiter.leader ≠ .port p → t.arbiter.leader = s.arbiter.leader)
      ∧ (∀ b, s.arbiter.slot = some b → b.bidder = p → t.arbiter.slot = none)
      ∧ (∀ b, s.arbiter.leader = .port p → s.arbiter.slot = some b →
          t.arbiter.leader = .port b.bidder ∧ t.arbiter.slot = none)
      ∧ (s.arbiter.leader = .port p → s.arbiter.slot = none →
          t.arbiter = ⟨.nobody, none, s.arbiter.waitExpiry, none⟩ ∧ t.engine.slip = 0)
      ∧ (let u := s.heard p (.closePort p)
        (s.arbiter.leader ≠ .port p →
          t.engine = s.engine ∧ t.taps = s.taps
          ∧ ((∀ b, s.arbiter.slot = some b → b.bidder ≠ p) → t.arbiter = s.arbiter)
          ∧ (∀ b, s.arbiter.slot = some b → b.bidder = p →
            t.arbiter = { s.arbiter with slot := none, waitExpiry := none })
          ∧ ∀ q, q ≠ p → t.noticeQueue q = s.noticeQueue q ∧ t.port q = s.port q)
        ∧ (∀ b, s.arbiter.leader = .port p → s.arbiter.slot = some b →
          let g := u.grant b .closed
          t.arbiter = g.arbiter ∧ t.engine = g.engine ∧ t.taps = g.taps
          ∧ ∀ q, q ≠ p → t.noticeQueue q = g.noticeQueue q ∧ t.port q = g.port q)
        ∧ (s.arbiter.leader = .port p → s.arbiter.slot = none →
          t.engine = { s.engine with slip := 0 }
          ∧ ∀ q, q ≠ p →
            let g := s.post q (.freewheel .closed (.port p))
            t.noticeQueue q = g.noticeQueue q ∧ t.port q = g.port q)
        ∧ t = { u with
            arbiter := t.arbiter, engine := t.engine, taps := t.taps, laneClaims := t.laneClaims
            playerClaims := t.playerClaims, cues := t.cues, writeSettings := t.writeSettings
            ports := t.ports, notices := t.notices })
      ∧ t.transport = s.transport ∧ t.gen = s.gen ∧ t.queue = s.queue ∧ t.lanes = s.lanes
      ∧ t.players = s.players ∧ t.patternMem = s.patternMem

/-- SET_PROFILE takes all four fields with the silence limit brought to at most 100, is refused RANGE for an
unknown flag or rank, and is refused LOCKED whole where it would clear the eligible flag or change the rank
of the leader or the bidder; READ_PROFILE and READ_IDENTITY report (section 9.5). -/
def Obligations.ProfileIsTakenLockedAndRead : Prop :=
  (∀ (p : Port) (e r l a : Byte) (s : State), s.canCommand p (.setProfile p e r l a) →
    let u := s.heard p (.setProfile p e r l a)
    let locked := (s.arbiter.leader = .port p ∨ ∃ b, s.arbiter.slot = some b ∧ b.bidder = p)
      ∧ (((s.port p).eligible = true ∧ e = 0) ∨ r.toNat ≠ (s.port p).rank)
    (1 < e.toNat ∨ 3 < r.toNat ∨ 1 < a.toNat →
      exec (.setProfile p e r l a) s = answers p 0x03 .range [] u)
    ∧ (e.toNat ≤ 1 → r.toNat ≤ 3 → a.toNat ≤ 1 →
      (locked → exec (.setProfile p e r l a) s = answers p 0x03 .locked [] u)
      ∧ (¬ locked → exec (.setProfile p e r l a) s =
        answers p 0x03 (if 100 < l.toNat then .clamped else .ok)
          [e, r, BitVec.ofNat 8 (min 100 l.toNat), a]
          (State.refreshAttn (State.restartSilence (u.setPort p { u.port p with
            eligible := decide (e = 1), rank := r.toNat, silenceLimit := min 100 l.toNat
            attention := decide (a = 1) }) p) p))))
  ∧ (∀ (p : Port) (s : State), s.canCommand p (.readProfile p) →
    let d := s.port p
    exec (.readProfile p) s = answers p 0x04 .ok
      ([if d.eligible then 1 else 0] ++ toBytes 1 d.rank ++ toBytes 1 d.silenceLimit
        ++ [if d.attention then 1 else 0] ++ toBytes 1 (s.allocation p)
        ++ toBytes 1 (s.cues.countP fun c => decide (c.owner = p))
        ++ toBytes 2 (s.noticeQueue p).enabled.toNat ++ toBytes 1 (s.noticeQueue p).timing.code
        ++ [if s.arbiter.leader = .port p then 1 else 0]
        ++ [if s.bids p then 1 else 0] ++ toBytes 4 d.session.toNat)
      (s.heard p (.readProfile p)))
  ∧ ∀ (p : Port) (s : State), s.canTake p (.readIdentity p) →
    exec (.readIdentity p) s = answers p 0x05 .ok
      [0x50, 0xA7, 0x04, 0x16, 1, 1, 0, 4, 2, 0, 16, 3, 0, 4, 4, 0, 128, 5, 0, 64, 6, 0, 8, 7, 0, 128,
        8, 0, 4, 9, 0, 250, 10, 0, 16, 0, 0, 0]
      (s.heard p (.readIdentity p))

/-! ### Grid arithmetic -/

/-- A tempo value's interval, an interval's tempo value and an interval's beat period are the exact
quotients rounded half up, in their ranges, and a converted tempo value is reported as it was sent; the beat
period is what the position snapshot carries, and what a matched grant takes its phase difference modulo
(sections 1.2, 4.2, 9.6). -/
def Obligations.TempoAndBeatPeriodRoundHalfUp : Prop :=
  (∀ c : Nat, 2000 ≤ c → c ≤ 30000 →
    IntervalLegal (intervalOf c)
    ∧ c * (2 * intervalOf c) ≤ 2 * 4096000000000 + c
    ∧ 2 * 4096000000000 < c * (2 * intervalOf c + 1)
    ∧ tempoOf (intervalOf c) = c)
  ∧ (∀ i : Nat, IntervalLegal i →
    2000 ≤ tempoOf i ∧ tempoOf i ≤ 30000
    ∧ i * (2 * tempoOf i) ≤ 2 * 4096000000000 + i
    ∧ 2 * 4096000000000 < i * (2 * tempoOf i + 1)
    ∧ beatPeriod i = (96 * i + 32768) / 65536
    ∧ 65536 * (2 * beatPeriod i) ≤ 2 * (96 * i) + 65536
    ∧ 2 * (96 * i) < 65536 * (2 * beatPeriod i + 1)
    ∧ 200000 ≤ beatPeriod i ∧ beatPeriod i ≤ 3000000)
  ∧ beatPeriod 136533333 = 200000 ∧ beatPeriod 2048000000 = 3000000
  ∧ (∀ s : State, (s.snapshotBytes.drop 18).take 4 = toBytes 4 (beatPeriod s.engine.interval))
  ∧ ∀ (m : BeatMark) (ref : Time) (i : Nat) (d : Int), ((ref.toNat : Int) - (m.refTime.toNat : Int)).natAbs < 2 ^ 63 →
    phaseDifference (some m) ref i = some d →
    ((beatPeriod i : Nat) : Int) ∣ d - ((ref.toNat : Int) - (m.refTime.toNat : Int))

/-- The slip portion of a step is the pending slip clamped to a thirty-second of the interval; it is taken
off the pending slip, which moves toward zero and never crosses it, and two successive reference times stay
at least 2018 µs apart (section 1.4). -/
def Obligations.SlipIsSpentTowardZero : Prop :=
  (∀ e : Engine,
    let limit : Int := ((e.interval / 32 : Nat) : Int)
    e.slipPortion = max (-limit) (min limit e.slip)
    ∧ e.afterRecord.slip = e.slip - e.slipPortion
    ∧ (-limit ≤ e.slip → e.slip ≤ limit → e.slipPortion = e.slip ∧ e.afterRecord.slip = 0)
    ∧ (limit < e.slip → e.slipPortion = limit ∧ 0 < e.afterRecord.slip ∧ e.afterRecord.slip ≤ e.slip)
    ∧ (e.slip < -limit →
      e.slipPortion = -limit ∧ e.afterRecord.slip < 0 ∧ e.slip ≤ e.afterRecord.slip))
  ∧ ((136533333 / 32 : Nat) = 4266666)
  ∧ ∀ (e : Engine) (n : Nat), IntervalLegal e.interval →
    132266667 ≤ (e.interval : Int) + e.slipPortion
    ∧ n / 65536 + 2018 ≤ (n + ((e.interval : Int) + e.slipPortion).toNat) / 65536

/-- The one addition to the pending slip sums without loss, clamps to half a beat at the interval in effect,
and says whether the clamp was needed; nothing else of the engine changes, and the bound is applied nowhere
else: a step spends the slip uncut, and a NUDGE of 0 leaves it as it stands. Every other NUDGE, the matched
grant and the lock loop add through it (section 1.6). -/
def Obligations.SlipAdditionIsClamped : Prop :=
  (∀ (e : Engine) (g : Int),
    let bound : Int := 48 * (e.interval : Int)
    (e.addSlip g).1 = { e with slip := max (-bound) (min bound (e.slip + g)) }
    ∧ ((e.addSlip g).2 = true ↔ e.slip + g < -bound ∨ bound < e.slip + g)
    ∧ ((e.addSlip g).2 = false → (e.addSlip g).1.slip = e.slip + g)
    ∧ (e.interval ≤ 2048000000 → (e.addSlip g).1.slip.natAbs ≤ 98304000000)
    ∧ e.afterRecord.slip = e.slip - e.slipPortion)
  ∧ (∀ (p : Port) (d : BitVec 32) (s : State), s.canLead p (.nudge p d) →
    ∃ st payload, exec (.nudge p d) s = answers p 0x11 st payload
      (if d = 0 then s.heard p (.nudge p d)
      else { s.heard p (.nudge p d) with engine := (s.engine.addSlip (d.toInt * 65536)).1 }))
  ∧ (∀ (e : Engine) (beat : Option BeatMark) (b : Bid) (d : Int),
    (e.matchBid beat b).2.1 = some d →
    ((e.matchBid beat b).1, (e.matchBid beat b).2.2) =
      (e.startTempo b.tempo b.glide).addSlip (d * 65536))
  ∧ ∀ (e : Engine) (q : List PulseRecord) (k : Nat) (t : Time),
    e.lockPhase q k t = e ∨ ∃ g, e.lockPhase q k t = (e.addSlip g).1

/-- A glide in progress gives its records the intervals I, I + S, I + 2S and so on, all between the interval
and the target, and lands on the target after its count of records (section 1.4). -/
def Obligations.GlideLandsOnItsTarget : Prop :=
  ∀ e : Engine, e.Legal → 0 < e.glideCount →
    (∀ k : Nat, k < e.glideCount →
      ((Engine.afterRecord^[k] e).interval : Int) = e.interval + k * e.glideStep
      ∧ (Engine.afterRecord^[k] e).glideCount = e.glideCount - k
      ∧ min e.interval e.glideTarget ≤ (Engine.afterRecord^[k] e).interval
      ∧ (Engine.afterRecord^[k] e).interval ≤ max e.interval e.glideTarget)
    ∧ (Engine.afterRecord^[e.glideCount] e).interval = e.glideTarget
    ∧ (Engine.afterRecord^[e.glideCount] e).glideCount = 0

/-- SET_TEMPO from the leader starts a tempo change to the value and glide length it carries, brought to
2000-30000 and at most 64 beats; NUDGE adds its shift to the pending slip under the half-beat clamp, a shift of
0 being answered OK with nothing changed; SET_METER sets the pending meter, or is refused RANGE outside 1-16
(sections 1.5 to 1.7). -/
def Obligations.LeaderCommandsActOnTheEngine : Prop :=
  (∀ (p : Port) (c : BitVec 16) (g : Byte) (s : State), s.canLead p (.setTempo p c g) →
    let v := max 2000 (min 30000 c.toNat)
    let beats := min 64 g.toNat
    let target := (4096000000000 + v / 2) / v
    exec (.setTempo p c g) s =
      answers p 0x10 (if c.toNat = v ∧ g.toNat = beats then .ok else .clamped)
        (toBytes 2 v ++ toBytes 1 beats)
        { s.heard p (.setTempo p c g) with
          engine :=
            if beats = 0 then
              { s.engine with
                interval := target, glideTarget := target, glideStep := 0, glideCount := 0 }
            else
              { s.engine with
                glideTarget := target
                glideStep := ((target : Int) - (s.engine.interval : Int)).tdiv
                  ((96 * beats : Nat) : Int)
                glideCount := 96 * beats } })
  ∧ (∀ (p : Port) (d : BitVec 32) (s : State), s.canLead p (.nudge p d) →
    let sum := s.engine.slip + d.toInt * 65536
    let bound : Int := 48 * (s.engine.interval : Int)
    let slip := if d = 0 then s.engine.slip else max (-bound) (min bound sum)
    exec (.nudge p d) s =
      answers p 0x11 (if slip = sum then .ok else .clamped)
        (toBytes 4 (BitVec.ofInt 32 (slip.tdiv 65536)).toNat)
        { s.heard p (.nudge p d) with engine := { s.engine with slip := slip } })
  ∧ ∀ (p : Port) (m : Byte) (s : State), s.canLead p (.setMeter p m) →
    exec (.setMeter p m) s =
      if 1 ≤ m.toNat ∧ m.toNat ≤ 16 then
        answers p 0x12 .ok (toBytes 1 s.engine.meter ++ [m])
          { s.heard p (.setMeter p m) with
            engine := { s.engine with pendingMeter := some m.toNat } }
      else answers p 0x12 .range [] (s.heard p (.setMeter p m))

/-- The generator position advances one pulse at a time through the bar, from the last pulse of a bar to
the start of the next, and from bar 65535 to 1.1.0, never to a position that cannot occur; its pulse index
rises by one but at a bar start (section 1.7). -/
def Obligations.PositionAdvancesThroughTheBar : Prop :=
  ∀ (m : Nat) (x : Position), x.Legal m →
    (x.pulse < 95 → x.advance m = ⟨x.bar, x.beat, x.pulse + 1⟩)
    ∧ (x.pulse = 95 → x.beat < m → x.advance m = ⟨x.bar, x.beat + 1, 0⟩)
    ∧ (x.pulse = 95 → x.beat = m → x.bar < 65535 → x.advance m = ⟨x.bar + 1, 1, 0⟩)
    ∧ (x.pulse = 95 → x.beat = m → x.bar = 65535 → x.advance m = ⟨1, 1, 0⟩)
    ∧ (x.advance m).Legal m
    ∧ x.index < 96 * m
    ∧ ((x.advance m).index = x.index + 1 ∨ (x.advance m).barStart = true)
    ∧ (x.barStart = true ↔ x.index = 0)

/-! ### Transport -/

/-- START from the leader: from STOPPED and ARMED the launch time is the time carried, brought to now + H and
now + 60,000,000, with 0 asking for the earliest; STOPPED becomes ARMED; RUNNING is answered ALREADY;
STOP_PENDING loses its stop point and runs on; DRAINING refuses TOO_LATE (section 2.2). -/
def Obligations.StartFixesTheLaunchTime : Prop :=
  ∀ (p : Port) (l : Time) (s : State), s.canLead p (.start p l) →
    let u := s.heard p (.start p l)
    let soon : Time := s.houseTime + BitVec.ofNat 64 (s.transport.horizonMs * 1000)
    let late : Time := s.houseTime + 60000000
    let taken : Time :=
      if l = 0 then soon else if l.toNat < soon.toNat then soon
      else if late.toNat < l.toNat then late else l
    let st : Status :=
      if l = 0 ∨ (soon.toNat ≤ l.toNat ∧ l.toNat ≤ late.toNat) then .ok else .clamped
    let present : List Byte :=
      match s.transport.launchTime with
      | some t => toBytes 8 t.toNat
      | none => List.replicate 8 0
    (s.transport.state = .stopped → exec (.start p l) s =
      answers p 0x13 st (toBytes 8 taken.toNat)
        (State.postAll { u with transport := { s.transport with
            state := .armed, launchTime := some taken } } (.transport .armed)))
    ∧ (s.transport.state = .armed → exec (.start p l) s =
      answers p 0x13 st (toBytes 8 taken.toNat)
        { u with transport := { s.transport with launchTime := some taken } })
    ∧ (s.transport.state = .running → exec (.start p l) s = answers p 0x13 .already present u)
    ∧ (s.transport.state = .stopPending → exec (.start p l) s =
      answers p 0x13 .ok present
        (State.postAll { u with transport := { s.transport with
            state := .running, stopPoint := none } } (.transport .running)))
    ∧ (s.transport.state = .draining → exec (.start p l) s = answers p 0x13 .tooLate [] u)

/-- STOP from the leader: an unknown mode is refused RANGE, ARMED stops at once with the slip cleared,
STOPPED and DRAINING are answered ALREADY, and RUNNING and STOP_PENDING take the stop point NOW, NEXT_BEAT or
NEXT_BAR gives, which is reached at once where it is the generator position (section 2.4). -/
def Obligations.StopSetsTheStopPoint : Prop :=
  ∀ (p : Port) (q : Byte) (s : State), s.canLead p (.stop p q) →
    let u := s.heard p (.stop p q)
    let x := s.gen.position
    let bar : Position :=
      if x.beat = 1 ∧ x.pulse = 0 then x
      else if x.bar < 65535 then ⟨x.bar + 1, 1, 0⟩ else ⟨1, 1, 0⟩
    let beat : Position :=
      if x.pulse = 0 then x else if x.beat < s.engine.meter then ⟨x.bar, x.beat + 1, 0⟩ else bar
    let y : Position := if q = 0 then x else if q = 1 then beat else bar
    let reply := toBytes 2 y.bar ++ toBytes 1 y.beat ++ toBytes 1 y.pulse
    (2 < q.toNat → exec (.stop p q) s = answers p 0x14 .range [] u)
    ∧ (q.toNat ≤ 2 →
      (s.transport.state = .stopped ∨ s.transport.state = .draining →
        exec (.stop p q) s = answers p 0x14 .already [] u)
      ∧ (s.transport.state = .armed → exec (.stop p q) s = answers p 0x14 .ok []
          (State.postAll { u with
            engine := { s.engine with slip := 0 }
            lastBeat := none
            transport := { s.transport with
              state := .stopped, launchTime := none, stopPoint := none, rLast := none } }
            (.transport .stopped)))
      ∧ (s.transport.state = .running ∨ s.transport.state = .stopPending → y = x →
        exec (.stop p q) s = answers p 0x14 .ok reply u.reachStop)
      ∧ (s.transport.state = .running → y ≠ x → exec (.stop p q) s = answers p 0x14 .ok reply
          (State.postAll { u with transport := { s.transport with
              state := .stopPending, stopPoint := some y } } (.transport .stopPending)))
      ∧ (s.transport.state = .stopPending → y ≠ x → exec (.stop p q) s = answers p 0x14 .ok reply
          { u with transport := { s.transport with stopPoint := some y } }))

/-- A stop point is reached with no record made: the position, the pulse number and N stand, pending row
jumps are applied, and with a record in the queue the newest gets the last marker and the transport drains,
while with none it becomes STOPPED with the slip cleared, TRANSPORT telling either. A generator step at its stop point
reaches it, and so does one with a STOP cue among its cues, once every cue due has fired: the lanes take the lane
changes at that instant, and every notice of the firing is posted at once, whatever its port's timing (sections
2.1, 2.3, 2.4, 3.2, 6.4, 7.4, 8.3). Which lanes are told of the last marker at once is the model's reading (log
entry 16), and that a run end already past then becomes absent is its choice (log entry 29). -/
def Obligations.StopPointEndsTheRun : Prop :=
  (∀ s : State,
    let t := s.reachStop
    t.gen = s.gen ∧ t.cues = s.cues
    ∧ (∀ i, t.player i =
        match (s.player i).primed, (s.player i).rowJump with
        | true, some j => { s.player i with cursor := j, rowJump := none }
        | _, _ => s.player i)
    ∧ (s.queue = [] →
      t.queue = [] ∧ t.engine = { s.engine with slip := 0 } ∧ t.lastBeat = none ∧ t.lanes = s.lanes
      ∧ t.transport = ⟨.stopped, s.transport.horizonMs, none, none, none⟩
      ∧ t = State.postAll { s with
          players := t.players, engine := t.engine, lastBeat := none, transport := t.transport }
        (.transport .stopped))
    ∧ ∀ q r, s.queue = q ++ [r] →
      let r' := { r with markers := { r.markers with last := true } }
      t.queue = q ++ [r'] ∧ t.engine = s.engine ∧ t.lastBeat = s.lastBeat
      ∧ t.transport = ⟨.draining, s.transport.horizonMs, s.transport.launchTime,
          some s.gen.position, some r.refTime⟩
      ∧ t = State.postAll { s with
          players := t.players, queue := t.queue, lanes := t.lanes, transport := t.transport }
        (.transport .draining)
      ∧ ∀ l, t.lane l =
          if (s.lane l).cursor = some .next then (s.lane l).noteLast s.houseTime r' else s.lane l)
  ∧ (∀ s : State, s.generatorDue = true → s.transport.stopPoint = some s.gen.position →
      exec .generatorStep s = .next s.reachStop)
  ∧ ∀ (i : Instr) (s : State),
      (i = .generatorStep ∧ s.generatorDue = true) ∨ (i = .launchStep ∧ s.launchDue = true) →
      s.transport.stopPoint ≠ some s.gen.position → s.fireCues.stop = true →
      ∃ t, exec i s = .next t ∧ t.gen = s.gen ∧ t.queue.length = s.queue.length
        ∧ (t.transport.state = if s.queue = [] then .stopped else .draining)
        ∧ (let f := s.fireCues
          let handed : State := { f.state with
            lanes := Vector.ofFn fun l =>
              match f.changes[l] with
              | some m => { s.lane l with mute := m }
              | none => s.lane l }
          t = (f.given.foldl (fun v g => v.postAt g.1 g.2 (some s.gen.position)) handed).reachStop)

/-- LOCATE and GRID_RESET from the leader, in STOPPED, set the generator position, drop every cue of the
pool with CUE_DROPPED RELOCATED to its owner in pool order, and leave the engine alone; GRID_RESET also sets the
pulse number to 0 and sends each primed player home. SET_HORIZON in STOPPED takes a horizon of at most 250 ms and
raises every lane offset below the new -H, reseating the raised lanes that are not OFF and leaving the other lanes
as they are. In any other state the three are refused LOCKED (sections 2.5, 6.6, 8.2, 8.4). That the notices carry
the new position is the model's reading (log entry 13), and so is what a RUN lane's output does where it passes
over records (log entry 18). That a run end already past becomes absent there is the model's choice (log entry
29). -/
def Obligations.RelocationAndHorizonInStoppedAlone : Prop :=
  let told : Position → State → State := fun x u =>
    u.cues.foldl (fun v c =>
      v.postAt c.owner (.cueDropped c.id c.tag c.action.kind .relocated c.fire) (some x)) u
  ((∀ (p : Port) (bar : BitVec 16) (beat : Byte) (s : State), s.canLead p (.locate p bar beat) →
     let u := s.heard p (.locate p bar beat)
     let x : Position := ⟨max 1 bar.toNat, max 1 (min s.engine.meter beat.toNat), 0⟩
     (s.transport.state ≠ .stopped →
       exec (.locate p bar beat) s = answers p 0x15 .locked [] u)
     ∧ (s.transport.state = .stopped → ∃ t,
       exec (.locate p bar beat) s =
         answers p 0x15
           (if bar = 0 ∨ beat = 0 ∨ s.engine.meter < beat.toNat then .clamped else .ok)
           (toBytes 2 x.bar ++ toBytes 1 x.beat ++ [0]) t
       ∧ t = { u with
           gen := { s.gen with position := x }, cues := [], ports := t.ports, notices := t.notices }
       ∧ t.ports = (told x u).ports ∧ t.notices = (told x u).notices
       ∧ ∀ o, (∀ c ∈ s.cues, c.owner ≠ o) → t.noticeQueue o = s.noticeQueue o))
   ∧ ∀ (p : Port) (s : State), s.canLead p (.gridReset p) →
     let u := s.heard p (.gridReset p)
     (s.transport.state ≠ .stopped → exec (.gridReset p) s = answers p 0x16 .locked [] u)
     ∧ (s.transport.state = .stopped → ∃ t,
       exec (.gridReset p) s = answers p 0x16 .ok [] t
       ∧ t = { u with
           gen := { s.gen with position := ⟨1, 1, 0⟩, pulse := 0 }, cues := [], players := t.players
           ports := t.ports, notices := t.notices }
       ∧ t.ports = (told ⟨1, 1, 0⟩ u).ports ∧ t.notices = (told ⟨1, 1, 0⟩ u).notices
       ∧ (∀ o, (∀ c ∈ s.cues, c.owner ≠ o) → t.noticeQueue o = s.noticeQueue o)
       ∧ ∀ i, t.player i = if (s.player i).primed then (s.player i).goHome else s.player i))
  ∧ (∀ (p : Port) (ms : Byte) (s : State), s.canCommand p (.setHorizon p ms) →
       let u := s.heard p (.setHorizon p ms)
       let h := min 250 ms.toNat
       let low : Int := -((h * 1000 : Nat) : Int)
       (s.transport.state ≠ .stopped → exec (.setHorizon p ms) s = answers p 0x17 .locked [] u)
       ∧ (s.transport.state = .stopped → ∃ t,
         exec (.setHorizon p ms) s =
           answers p 0x17 (if 250 < ms.toNat then .clamped else .ok) (toBytes 1 h) t
         ∧ t = { u with transport := { s.transport with horizonMs := h }, lanes := t.lanes }
         ∧ ∀ l,
           (t.lane l).settings =
             { (s.lane l).settings with offset := max low (s.lane l).settings.offset }
           ∧ (low ≤ (s.lane l).settings.offset → t.lane l = s.lane l)
           ∧ ((s.lane l).settings.offset < low →
             let raised : Lane :=
               { s.lane l with settings := { (s.lane l).settings with offset := low } }
             ((s.lane l).settings.mode = .off → t.lane l = raised)
             ∧ ((s.lane l).settings.mode ≠ .off →
               raised.Reseats l s.houseTime s.queue (t.lane l)))))

/-- READ_POSITION gives the 62-byte snapshot and READ_LEADERSHIP the arbiter's items, from any port, open or
closed, and change nothing; an optional field that is absent is sent as zeros with its presence bit clear
(sections 2.6, 4.8, 9.6). The presence byte's place in READ_LEADERSHIP's reply, the order of its bits and the
widths of the times left are the model's choice (log entry 7). So is the sounding record at the very instant it
sounds (log entry 15). -/
def Obligations.SnapshotsReportThePart : Prop :=
  let place : Position → List Byte := fun y =>
    toBytes 2 y.bar ++ toBytes 1 y.beat ++ toBytes 1 y.pulse
  (∀ (p : Port) (s : State), s.canTake p (.readPosition p) →
    let e := s.engine
    let sounding : Option PulseRecord :=
      (s.queue.filter fun r => decide (r.refTime.toNat ≤ s.houseTime.toNat)).getLast?
    ∃ (present : Byte) (b : List Byte),
      exec (.readPosition p) s = answers p 0x18 .ok b (s.heard p (.readPosition p))
      ∧ b.length = 62
      ∧ b = toBytes 8 s.houseTime.toNat ++ [present]
          ++ [s.transport.state.code, s.arbiter.leader.code, s.transport.horizonMs].flatMap (toBytes 1)
          ++ place s.gen.position
          ++ toBytes 2 (tempoOf e.interval) ++ toBytes 4 (beatPeriod e.interval)
          ++ toBytes 4 (BitVec.ofInt 32 (e.slip.tdiv 65536)).toNat
          ++ toBytes 2 e.glideCount ++ toBytes 1 e.meter ++ toBytes 1 (e.pendingMeter.getD 0)
          ++ toBytes 8 ((s.transport.launchTime.map BitVec.toNat).getD 0)
          ++ place (s.transport.stopPoint.getD ⟨0, 0, 0⟩)
          ++ (match sounding with
            | some r => toBytes 4 r.pulse.toNat ++ place r.position ++ toBytes 8 r.refTime.toNat
                ++ toBytes 4 r.interval
            | none => List.replicate 20 0)
      ∧ present.getLsbD 0 = sounding.isSome
      ∧ present.getLsbD 1 = s.transport.launchTime.isSome
      ∧ present.getLsbD 2 = s.transport.stopPoint.isSome
      ∧ present.getLsbD 3 = e.pendingMeter.isSome
      ∧ (present.getLsbD 4 = true ↔ s.arbiter.leader = .nobody
        ∧ s.transport.state ∈ [.running, .stopPending, .draining])
      ∧ ∀ k, 5 ≤ k → present.getLsbD k = false)
  ∧ ∀ (p : Port) (s : State), s.canTake p (.readLeadership p) →
    let u := s.heard p (.readLeadership p)
    let a := u.arbiter
    let left : Option Time → Nat := fun t? =>
      (t?.map fun t => (t - s.houseTime).toNat / 1000).getD 0
    ∃ (present : Byte) (b : List Byte),
      exec (.readLeadership p) s = answers p 0x27 .ok b u
      ∧ b.length = 31
      ∧ b = toBytes 1 a.leader.code ++ [present]
          ++ (match a.leader with
            | .port y => toBytes 1 (s.port y).rank ++ toBytes 1 (s.port y).silenceLimit
            | _ => [0, 0])
          ++ toBytes 4 (left a.silenceExpiry)
          ++ (match a.slot with
            | some x =>
              toBytes 1 (portCode (some x.bidder)) ++ toBytes 1 x.rank ++ toBytes 1 x.kind.code
                ++ toBytes 2 x.wait ++ toBytes 2 x.tempo ++ toBytes 8 x.beatRef.toNat
                ++ toBytes 1 x.glide
            | none => List.replicate 16 0)
          ++ toBytes 4 (left a.waitExpiry)
          ++ toBytes 1 (portCode (some p)) ++ [if (s.port p).eligible then 1 else 0]
          ++ toBytes 1 (s.port p).rank
      ∧ (∀ k, k < 2 → (present.getLsbD k = true ↔ ∃ y, a.leader = .port y))
      ∧ present.getLsbD 2 = a.silenceExpiry.isSome
      ∧ present.getLsbD 3 = a.slot.isSome
      ∧ present.getLsbD 4 = a.waitExpiry.isSome
      ∧ a.leader = s.arbiter.leader ∧ a.slot = s.arbiter.slot ∧ a.waitExpiry = s.arbiter.waitExpiry
      ∧ (s.arbiter.leader ≠ .port p → a.silenceExpiry = s.arbiter.silenceExpiry)

/-! ### The generator and the horizon queue -/

/-- At T0 - H in ARMED the launch step, with no STOP cue due, makes the launch record at T0: the next pulse
number at the generator position, with the launch marker; the position and the pulse number advance, every
lane takes the launch reference, every lane that is not OFF is seated on the record and nothing else of a lane
changes, and the transport becomes RUNNING. Before that instant nothing happens (sections 2.2, 2.3, 3.1, 8.2). That an
event named before its instant changes nothing is the model's choice (log entry 22). -/
def Obligations.LaunchStepMakesTheLaunchRecord : Prop :=
  (∀ s : State, s.launchDue = false → exec .launchStep s = .next s)
  ∧ ∀ (t0 : Time) (s : State), s.transport.state = .armed → s.transport.launchTime = some t0 →
    (t0 - BitVec.ofNat 64 (s.transport.horizonMs * 1000)).toNat ≤ s.houseTime.toNat →
    s.transport.stopPoint ≠ some s.gen.position → s.fireCues.stop = false →
    let x := s.gen.position
    let e := if x.barStart then s.fireCues.state.engine.applyMeter else s.fireCues.state.engine
    ∃ t r, exec .launchStep s = .next t
      ∧ t.queue = s.queue ++ [r]
      ∧ r.pulse = s.gen.pulse ∧ r.refTime = t0 ∧ r.position = x ∧ r.interval = e.interval
      ∧ r.markers = ⟨decide (x.pulse = 0), decide (x.beat = 1) && decide (x.pulse = 0), true, false⟩
      ∧ t.transport = { s.transport with state := .running }
      ∧ t.engine = e.afterRecord
      ∧ t.gen.n = BitVec.ofNat 80 (t0.toNat * 65536)
          + BitVec.ofInt 80 ((e.interval : Int) + e.slipPortion)
      ∧ t.gen.position = x.advance e.meter ∧ t.gen.pulse = s.gen.pulse + 1
      ∧ (∀ l, t.lane l = { s.lane l with
          launchRef := s.gen.pulse
          cursor :=
            if (s.lane l).settings.mode ≠ .off ∨ (s.lane l).cursor = some .next then
              some (.at s.gen.pulse)
            else (s.lane l).cursor })
      ∧ t = { s with
          queue := t.queue, engine := t.engine, gen := t.gen, transport := t.transport
          lastBeat := t.lastBeat, cues := t.cues, players := t.players, lanes := t.lanes
          ports := t.ports, notices := t.notices }
      ∧ t.arbiter = s.arbiter ∧ t.taps = s.taps ∧ t.patternMem = s.patternMem
      ∧ t.laneClaims = s.laneClaims ∧ t.playerClaims = s.playerClaims
      ∧ t.allocations = s.allocations ∧ t.houseTime = s.houseTime

/-- At floor(N / 65536) - H in RUNNING or STOP_PENDING a generator step, away from its stop point and with no
STOP cue due, makes the next record from N, the engine and the position, and then advances N by the interval
and the slip portion, the engine, the position and the pulse number. Of a lane only a cursor that names the next
record to be generated changes: it comes to name this record. Before that instant nothing happens
(sections 1.4, 1.7, 2.3, 3.1). That an
event named before its instant changes nothing is the model's choice (log entry 22). -/
def Obligations.GeneratorStepMakesTheNextRecord : Prop :=
  (∀ s : State, s.generatorDue = false → exec .generatorStep s = .next s)
  ∧ ∀ s : State, s.transport.state = .running ∨ s.transport.state = .stopPending →
    (BitVec.ofNat 64 (s.gen.n.toNat / 65536)
      - BitVec.ofNat 64 (s.transport.horizonMs * 1000)).toNat ≤ s.houseTime.toNat →
    s.transport.stopPoint ≠ some s.gen.position → s.fireCues.stop = false →
    let x := s.gen.position
    let e := if x.barStart then s.fireCues.state.engine.applyMeter else s.fireCues.state.engine
    ∃ t r, exec .generatorStep s = .next t
      ∧ t.queue = s.queue ++ [r]
      ∧ r.pulse = s.gen.pulse ∧ r.refTime = BitVec.ofNat 64 (s.gen.n.toNat / 65536)
      ∧ r.position = x ∧ r.interval = e.interval
      ∧ r.markers = ⟨decide (x.pulse = 0), decide (x.beat = 1) && decide (x.pulse = 0), false, false⟩
      ∧ t.transport = s.transport
      ∧ t.engine = e.afterRecord
      ∧ t.gen.n = s.gen.n + BitVec.ofInt 80 ((e.interval : Int) + e.slipPortion)
      ∧ t.gen.position = x.advance e.meter ∧ t.gen.pulse = s.gen.pulse + 1
      ∧ t.lastBeat = (if x.pulse = 0 then some ⟨r.pulse, x, r.refTime⟩ else s.lastBeat)
      ∧ (∀ l, t.lane l = { s.lane l with
          cursor :=
            if (s.lane l).cursor = some .next then some (.at s.gen.pulse) else (s.lane l).cursor })
      ∧ t = { s with
          queue := t.queue, engine := t.engine, gen := t.gen, lastBeat := t.lastBeat, cues := t.cues
          players := t.players, lanes := t.lanes, ports := t.ports, notices := t.notices }
      ∧ t.arbiter = s.arbiter ∧ t.taps = s.taps ∧ t.patternMem = s.patternMem
      ∧ t.laneClaims = s.laneClaims ∧ t.playerClaims = s.playerClaims
      ∧ t.allocations = s.allocations ∧ t.houseTime = s.houseTime

/-- The record that a launch step or a generator step makes carries, once the due cues have fired, a step entry
for each player that begins a step there, P0 to P3, with its step's eight levels, and a lane change for each lane
the cues gave one, in ascending number. The players stand after it as it moves them; it becomes the last beat start
at pulse 0; and after the last pulse of a bar the cues beyond a short bar are carried to the next bar start, or at
bar 65535 every cue is gone (sections 1.7, 3.1, 3.2, 6.3, 6.6, 7.4). That the record has not sounded yet is said
of the model's own flag `sounded` (log entry 5). -/
def Obligations.MadeRecordCarriesStepsAndChanges : Prop :=
  ∀ (launch : Bool) (s : State), s.makesRecord launch →
    let x := s.gen.position
    let f := s.fireCues
    let after := s.recordPlayer launch
    ∃ t r, exec (stepRow launch) s = .next t
      ∧ t.queue = s.queue ++ [r] ∧ r.sounded = false
      ∧ (∀ j, t.player j = (after j).1)
      ∧ (∀ (j : Fin 4) (k : Nat) (ls : Levels), (⟨j, k, ls⟩ : StepEntry) ∈ r.steps ↔
        (after j).2.1 = true ∧ k = (after j).1.cursor
          ∧ ∀ q : Fin 8, ls[q] = levelAt (after j).1.register (k * 8 + q.val))
      ∧ r.steps.Pairwise (fun a b => a.player < b.player)
      ∧ (∀ (l : Fin 16) (m : Mute), (⟨l, m⟩ : LaneChange) ∈ r.laneChanges ↔ f.changes[l] = some m)
      ∧ r.laneChanges.Pairwise (fun a b => a.lane < b.lane)
      ∧ t.lastBeat = (if x.pulse = 0 then some ⟨r.pulse, x, r.refTime⟩ else s.lastBeat)
      ∧ (¬ s.endsBar → t.cues = f.state.cues)
      ∧ (s.endsBar → x.bar < 65535 → t.cues = f.state.cues.map s.carriedCue)
      ∧ (s.endsBar → 65535 ≤ x.bar → t.cues = [])

/-- The notices given at the making of a record are those of the cues that fired, a HALF_FREE to the holder of each
player that crossed, P0 to P3, and at a bar start BAR to every port. One of kind CUE_FIRED, HALF_FREE or BAR for an
open port of SOUND timing that has the kind enabled stands in the port's sound-notice entry in the record, beside
its session number; the entries stand A to D. Every other is posted at once with the record's position. After the
last pulse of bar 65535 the drops RELOCATED follow, and at a launch TRANSPORT RUNNING (sections 2.1, 2.3, 3.2, 6.4,
6.6, 7.4, 10.2). The order of the notices of an ARM port, and the position of the notices that follow the
record, are the model's (log entries 12, 13, 14 and 27). -/
def Obligations.MakingPlacesOrPostsItsNotices : Prop :=
  ∀ (launch : Bool) (s : State), s.makesRecord launch →
    let x := s.gen.position
    let f := s.fireCues
    let after := s.recordPlayer launch
    let crossings : List (Port × NoticeBody) := ([0, 1, 2, 3] : List (Fin 4)).filterMap fun j =>
      let pl := (after j).1
      match (after j).2.2, s.playerHolder j with
      | true, some p => some (p,
          if pl.cursor < 32 then .halfFree j .upper pl.cursor pl.sourceLower
          else .halfFree j .lower pl.cursor pl.sourceUpper)
      | _, _ => none
    let bars : List (Port × NoticeBody) :=
      if x.beat = 1 ∧ x.pulse = 0 then [(.a, .bar), (.b, .bar), (.c, .bar), (.d, .bar)] else []
    let given := f.given ++ crossings ++ bars
    let placed : Port × NoticeBody → Bool := fun g =>
      (s.port g.1).isOpen && decide (g.2.code = 7 ∨ g.2.code = 9 ∨ g.2.code = 10)
        && (s.noticeQueue g.1).enabled.getLsbD g.2.code
        && decide ((s.noticeQueue g.1).timing = .sound)
    let entry : Port → Option SoundEntry := fun p =>
      let own := given.filter fun g => decide (g.1 = p) && placed g
      if own = [] then none else some ⟨p, (s.port p).session, own.map fun g => g.2⟩
    let next := x.advance s.recordEngine.meter
    let posted : State :=
      given.foldl (fun v g => if placed g then v else v.postAt g.1 g.2 (some x)) s
    let dropped : List Cue :=
      if x.bar < 65535 then [] else f.state.cues.map s.carriedCue
    ∃ t r, exec (stepRow launch) s = .next t ∧ t.queue = s.queue ++ [r]
      ∧ r.sounds = ([.a, .b, .c, .d] : List Port).filterMap entry
      ∧ ∀ relocated : State,
        (s.endsBar → relocated = dropped.foldl (fun v c =>
          v.postAt c.owner (.cueDropped c.id c.tag c.action.kind .relocated c.fire) (some next))
          posted) →
        (¬ s.endsBar → relocated = posted) →
        let told : State :=
          if launch then
            ([.a, .b, .c, .d] : List Port).foldl
              (fun v p => v.postAt p (.transport .running) (some next)) relocated
          else relocated
        t.notices = told.notices ∧ t.ports = told.ports

/-- RECORD_RETIRES takes the front record off the queue once house time reaches R + 250,001, and with the last
marker on it the transport becomes STOPPED at that instant; DRAINING_END stops the transport once house time
reaches R_last + 250,001; and RECORD_SOUNDS hands the first record that has not sounded to the notice unit once
it reaches R. Of the record's entries, one whose session is not its port's is discarded and leaves the overflowed
flag; the notices of the others are appended in turn to their open port's queue while it holds fewer than 16, the
rest are discarded with the overflowed flag set, and ATTN follows. Before their instants nothing happens (sections
2.4, 3.3, 10.2, 10.3). That an event named before its instant changes nothing, and that either of the two events of that
one instant makes the whole change, are the model's (log entries 21 and 22); so is the flag `sounded`, by which the
first record that has not sounded is found and which the event sets (log entry 5). -/
def Obligations.QueueEventsComeAtTheirInstants : Prop :=
  let stopped : State → State := fun s =>
    State.postAll { s with
      queue := [], lastBeat := none, engine := { s.engine with slip := 0 }
      transport := { s.transport with
        state := .stopped, launchTime := none, stopPoint := none, rLast := none } }
      (.transport .stopped)
  (∀ (r : PulseRecord) (q : List PulseRecord) (s : State), s.queue = r :: q →
    exec .recordRetires s =
      if (r.refTime + 250001).toNat ≤ s.houseTime.toNat then
        .next (if r.markers.last then stopped s else { s with queue := q })
      else .next s)
  ∧ (∀ (t : Time) (s : State), s.transport.state = .draining → s.transport.rLast = some t →
    exec .drainingEnd s =
      if (t + 250001).toNat ≤ s.houseTime.toNat then .next (stopped s) else .next s)
  ∧ ∀ (a b : List PulseRecord) (r : PulseRecord) (s : State), s.queue = a ++ r :: b →
    (∀ x ∈ a, x.sounded = true) → r.sounded = false →
    (s.houseTime.toNat < r.refTime.toNat → exec .recordSounds s = .next s)
    ∧ (r.refTime.toNat ≤ s.houseTime.toNat → ∃ t, exec .recordSounds s = .next t
      ∧ t = { s with
          queue := a ++ { r with sounded := true } :: b, ports := t.ports, notices := t.notices }
      ∧ ∀ p : Port,
        let own := r.sounds.filter fun e => decide (e.port = p ∧ e.session = (s.port p).session)
        let posted : List Notice := own.flatMap fun e => e.bodies.map fun k =>
          ⟨k, r.refTime.setWidth 32, some r.position⟩
        let q := s.noticeQueue p
        let room := 16 - q.queue.length
        let after := q.queue ++ posted.take room
        ((s.port p).isOpen = false ∨ posted = [] →
          t.noticeQueue p = q ∧ t.port p = s.port p)
        ∧ ((s.port p).isOpen = true → posted ≠ [] →
          t.noticeQueue p = { q with
            queue := after, overflowed := q.overflowed || decide (room < posted.length) }
          ∧ t.port p = { s.port p with
            attn := decide (after ≠ []) && (s.port p).attention }))

/-! ### Leadership -/

/-- BID from an open port: an unknown kind is refused RANGE and a port that is not eligible NOT_ELIGIBLE;
then the fields are brought to their limits, and the bid is answered ALREADY from the leader, granted where
no port leads, put in the slot where the slot is empty, holds the port's own bid or holds a lower-ranked
one, which is told LOST DISPLACED, and refused LOST CONTENDED, nothing changed, where the slot holds one of
the same or a higher rank. A bid that enters the slot starts the wait timer afresh and posts
HANDOVER_REQUEST (sections 4.2, 4.4, 4.7). The layout of the reply is the model's choice (log entry 7). -/
def Obligations.BidIsGrantedPendedOrContended : Prop :=
  ∀ (p : Port) (k : Byte) (w c : BitVec 16) (r : Time) (g : Byte) (s : State),
    s.canCommand p (.bid p k w c r g) →
    let i : Instr := .bid p k w c r g
    let u := s.heard p i
    let rank := (s.port p).rank
    let wait := min 600 w.toNat
    let tempo := max 2000 (min 30000 c.toNat)
    let glide := min 64 g.toNat
    let b : Bid :=
      if k = 0 then ⟨p, rank, .plain, 0, 0, 0, wait⟩ else ⟨p, rank, .matched, tempo, r, glide, wait⟩
    let cut : Bool := decide (w.toNat ≠ wait ∨ (k = 1 ∧ (c.toNat ≠ tempo ∨ g.toNat ≠ glide)))
    let reply : Leader → List Byte := fun l =>
      [if cut then 1 else 0] ++ toBytes 2 b.tempo ++ toBytes 1 b.glide ++ toBytes 2 wait
        ++ toBytes 1 l.code
    let enter : Port → State → State := fun y t =>
      State.post { t with arbiter := { t.arbiter with
          slot := some b
          waitExpiry :=
            if wait = 0 then none else some (s.houseTime + BitVec.ofNat 64 (wait * 100000)) } } y
        (.handoverRequest p rank b.kind wait b.tempo b.glide)
    (1 < k.toNat → exec i s = answers p 0x20 .range [] u)
    ∧ (k.toNat ≤ 1 → (s.port p).eligible = false → exec i s = answers p 0x20 .notEligible [] u)
    ∧ (k.toNat ≤ 1 → (s.port p).eligible = true →
      (s.arbiter.leader = .port p → exec i s = answers p 0x20 .already (reply (.port p)) u)
      ∧ ((∀ y, s.arbiter.leader ≠ .port y) →
        exec i s = answers p 0x20 .ok (reply (.port p)) (u.grant b .immediate))
      ∧ ∀ y, s.arbiter.leader = .port y → y ≠ p →
        ((∀ z, s.arbiter.slot = some z → z.bidder = p) →
          exec i s = answers p 0x20 .pending (reply (.port y)) (enter y u))
        ∧ ∀ z, s.arbiter.slot = some z → z.bidder ≠ p →
          (z.rank < rank → exec i s = answers p 0x20 .pending (reply (.port y))
            (enter y (u.post z.bidder (.lost .displaced (some p)))))
          ∧ (rank ≤ z.rank →
            exec i s = answers p 0x20 .lost [1, BitVec.ofNat 8 (z.bidder.idx.val + 1)] u))

/-- A grant makes the bidder the leader: the slot is emptied, the wait timer stops, the silence timer starts
with the bidder's limit, a tap that led leaves follow mode, the slip is cleared, a MATCHED bid acts on the
engine, the old leader, a port, is told LOST where it was deposed or silent, and then the bidder is told
LEAD_GRANTED, each notice posted as every notice is: a closed port or a disabled kind takes none, and a full queue
sets its overflowed flag. Nothing else changes (sections 4.2, 4.7, 10.1, 10.2). -/
def Obligations.GrantMakesTheBidderLeader : Prop :=
  ∀ (s : State) (b : Bid) (route : Route),
    let t := s.grant b route
    let x := b.bidder
    let limit := (s.port x).silenceLimit
    let m := { s.engine with slip := 0 }.matchBid s.lastBeat b
    let stamp : NoticeBody → Notice := fun n =>
      ⟨n, s.houseTime.setWidth 32, some s.gen.position⟩
    t.arbiter = ⟨.port x, none, none,
      if limit = 0 then none else some (s.houseTime + BitVec.ofNat 64 (limit * 100000))⟩
    ∧ (∀ k, t.tap k =
        { s.tap k with follow := if s.arbiter.leader = .tap k then false else (s.tap k).follow })
    ∧ t.engine = (if b.kind = .plain then { s.engine with slip := 0 } else m.1)
    ∧ (let taken : State := { s with arbiter := t.arbiter, taps := t.taps, engine := t.engine }
      let told : State :=
        match s.arbiter.leader, route with
        | .port y, .deposed => taken.post y (.lost .deposed (some x))
        | .port y, .silent => taken.post y (.lost .silent (some x))
        | _, _ => taken
      t = told.post x
        (if b.kind = .plain then .leadGranted route .plain 0 0 none false
        else .leadGranted route .matched b.tempo b.glide m.2.1 m.2.2))
    ∧ (∀ q, t.port q = { s.port q with attn := (t.port q).attn })
    ∧ (∀ q, q ≠ x → s.arbiter.leader ≠ .port q → t.noticeQueue q = s.noticeQueue q)
    ∧ (s.arbiter.leader ≠ .port x → (s.port x).isOpen = true →
      (s.noticeQueue x).queue.length < 16 → (s.noticeQueue x).enabled.getLsbD 2 = true →
      (t.noticeQueue x).queue = (s.noticeQueue x).queue ++
        [stamp (if b.kind = .plain then .leadGranted route .plain 0 0 none false
          else .leadGranted route .matched b.tempo b.glide m.2.1 m.2.2)])
    ∧ ∀ y, s.arbiter.leader = .port y → y ≠ x →
      (route ≠ .deposed → route ≠ .silent → t.noticeQueue y = s.noticeQueue y)
      ∧ ((s.port y).isOpen = true → (s.noticeQueue y).queue.length < 16 →
        (s.noticeQueue y).enabled.getLsbD 3 = true →
        (route = .deposed → (t.noticeQueue y).queue =
          (s.noticeQueue y).queue ++ [stamp (.lost .deposed (some x))])
        ∧ (route = .silent → (t.noticeQueue y).queue =
          (s.noticeQueue y).queue ++ [stamp (.lost .silent (some x))]))

/-- A matched grant starts a tempo change to the bid's tempo over its glide beats and then, if there is a
last beat start, adds to the slip the phase difference between the bidder's beat and the grid's: congruent
to T_b - R_beat modulo the beat period, above minus half and at most half of it, clamped with the sum to
half a beat (section 4.2). That the difference is the exact one of the two 64-bit times is the model's
reading (log entry 17). -/
def Obligations.MatchedGrantTakesTheNearerPhase : Prop :=
  ∀ (e : Engine) (beat : Option BeatMark) (b : Bid),
    let target := (4096000000000 + b.tempo / 2) / b.tempo
    let e' : Engine :=
      if b.glide = 0 then
        { e with interval := target, glideTarget := target, glideStep := 0, glideCount := 0 }
      else
        { e with
          glideTarget := target
          glideStep := ((target : Int) - (e.interval : Int)).tdiv ((96 * b.glide : Nat) : Int)
          glideCount := 96 * b.glide }
    (beat = none → e.matchBid beat b = (e', none, false))
    ∧ ∀ k, beat = some k → IntervalLegal e'.interval →
      let period : Int := (((96 * e'.interval + 32768) / 65536 : Nat) : Int)
      let bound : Int := 48 * (e'.interval : Int)
      ∃ d : Int,
        period ∣ d - ((b.beatRef.toNat : Int) - (k.refTime.toNat : Int))
        ∧ -period < 2 * d ∧ 2 * d ≤ period
        ∧ e.matchBid beat b =
          ({ e' with slip := max (-bound) (min bound (e.slip + d * 65536)) }, some d,
            decide (e.slip + d * 65536 < -bound ∨ bound < e.slip + d * 65536))

/-- YIELD grants the pending bid, REFUSE turns it down and tells the bidder, RELEASE grants it or leaves the
grid without a leader and posts FREEWHEEL, WITHDRAW takes a port's own bid back, KEEP changes nothing, and
HAND_TO_TAP gives the lead to a STEADY tap while no bid is pending; where there is no bid to act on the
answer is ALREADY (sections 4.3 to 4.5). That YIELD's ALREADY carries no payload, and that YIELD and RELEASE
reply the leader after the command, are the model's choice (log entry 7). -/
def Obligations.LeaderAnswersTheBid : Prop :=
  (∀ (p : Port) (s : State), s.canLead p (.yieldLead p) →
    let u := s.heard p (.yieldLead p)
    (s.arbiter.slot = none → exec (.yieldLead p) s = answers p 0x21 .already [] u)
    ∧ ∀ b, s.arbiter.slot = some b → exec (.yieldLead p) s =
      answers p 0x21 .ok [BitVec.ofNat 8 (b.bidder.idx.val + 1)] (u.grant b .yielded))
  ∧ (∀ (p : Port) (s : State), s.canLead p (.refuse p) →
    let u := s.heard p (.refuse p)
    (s.arbiter.slot = none → exec (.refuse p) s = answers p 0x22 .already [] u)
    ∧ ∀ b, s.arbiter.slot = some b → exec (.refuse p) s = answers p 0x22 .ok []
      (State.post { u with arbiter := { u.arbiter with slot := none, waitExpiry := none } } b.bidder
        (.lost .refused (some p))))
  ∧ (∀ (p : Port) (s : State), s.canLead p (.release p) →
    let u := s.heard p (.release p)
    (s.arbiter.slot = none → exec (.release p) s = answers p 0x23 .ok [0]
      (State.postAll { u with
        arbiter := { u.arbiter with leader := .nobody, silenceExpiry := none }
        engine := { s.engine with slip := 0 } } (.freewheel .released (.port p))))
    ∧ ∀ b, s.arbiter.slot = some b → exec (.release p) s =
      answers p 0x23 .ok [BitVec.ofNat 8 (b.bidder.idx.val + 1)] (u.grant b .released))
  ∧ (∀ (p : Port) (s : State), s.canCommand p (.withdraw p) →
    let u := s.heard p (.withdraw p)
    ((∀ b, s.arbiter.slot = some b → b.bidder ≠ p) →
      exec (.withdraw p) s = answers p 0x24 .already [] u)
    ∧ ∀ b, s.arbiter.slot = some b → b.bidder = p → exec (.withdraw p) s = answers p 0x24 .ok []
      { u with arbiter := { u.arbiter with slot := none, waitExpiry := none } })
  ∧ (∀ (p : Port) (s : State), s.canLead p (.keep p) →
    exec (.keep p) s = answers p 0x25 .ok [] (s.heard p (.keep p)))
  ∧ ∀ (p : Port) (n : Byte) (s : State), s.canLead p (.handToTap p n) →
    let u := s.heard p (.handToTap p n)
    (3 < n.toNat → exec (.handToTap p n) s = answers p 0x26 .range [] u)
    ∧ ∀ k : Fin 4, n.toNat = k.val →
      (s.arbiter.slot ≠ none → exec (.handToTap p n) s = answers p 0x26 .busy [] u)
      ∧ (s.arbiter.slot = none → (s.tap k).state ≠ .steady →
        exec (.handToTap p n) s = answers p 0x26 .notSteady [] u)
      ∧ (s.arbiter.slot = none → (s.tap k).state = .steady →
        exec (.handToTap p n) s = answers p 0x26 .ok []
          { u.setTap k { s.tap k with follow := true } with
            arbiter := { u.arbiter with leader := .tap k, silenceExpiry := none }
            engine := { s.engine with slip := 0 } })

/-- When the wait timer expires, a bidder of a higher rank than the leader is granted and any other is told
LOST TIMED_OUT; when the silence timer expires, the pending bid is granted, or with none the grid is left
without a leader, the old leader told LOST SILENT and every port FREEWHEEL. Before their times neither does
anything (section 4.4). That an
event named before its instant changes nothing is the model's choice (log entry 22). -/
def Obligations.ArbiterTimersExpire : Prop :=
  (∀ s : State, (∀ t, s.arbiter.waitExpiry = some t → s.houseTime.toNat < t.toNat) →
    exec .waitTimerExpiry s = .next s)
  ∧ (∀ (t : Time) (b : Bid) (y : Port) (s : State), s.arbiter.waitExpiry = some t →
    t.toNat ≤ s.houseTime.toNat → s.arbiter.slot = some b → s.arbiter.leader = .port y →
    exec .waitTimerExpiry s = .next
      (if (s.port y).rank < b.rank then s.grant b .deposed
      else State.post { s with arbiter := { s.arbiter with slot := none, waitExpiry := none } }
        b.bidder (.lost .timedOut (some y))))
  ∧ (∀ s : State, (∀ t, s.arbiter.silenceExpiry = some t → s.houseTime.toNat < t.toNat) →
    exec .silenceTimerExpiry s = .next s)
  ∧ ∀ (t : Time) (s : State), s.arbiter.silenceExpiry = some t → t.toNat ≤ s.houseTime.toNat →
    (∀ b, s.arbiter.slot = some b → exec .silenceTimerExpiry s = .next (s.grant b .silent))
    ∧ ∀ y, s.arbiter.slot = none → s.arbiter.leader = .port y →
      exec .silenceTimerExpiry s = .next
        (State.postAll (State.post { s with
          arbiter := { s.arbiter with leader := .nobody, silenceExpiry := none }
          engine := { s.engine with slip := 0 } } y (.lost .silent none))
          (.freewheel .silent (.port y)))

/-! ### Taps -/

/-- What a ring of edges gives: the state from its count, the mean edge interval as the floor of its span
over its gaps, the measured interval rounded half up and brought between I_min and I_max, and the measured
tempo, absent below two edges and in 2000-30000 from two. A change of a tap that leaves its state alone posts
nothing; one that changes it posts TAP_STATE to every port, and if the tap led and is no longer STEADY the
lead is lost: follow mode ends, nobody leads, the slip is cleared and FREEWHEEL TAP_LOST is posted after
TAP_STATE (sections 4.5, 5.3, 5.5, 5.7, 5.8). -/
def Obligations.RingGivesStateAndChangesAreTold : Prop :=
  (∀ (tap : Tap) (ring : List Time),
     let t := tap.withRing ring
     t = { tap with
       ring := ring, state := t.state, measuredInterval := t.measuredInterval
       measuredTempo := t.measuredTempo }
     ∧ (t.state = .silent ↔ ring.length = 0) ∧ (t.state = .steady ↔ 4 ≤ ring.length)
     ∧ (ring.length < 2 →
       meanEdge ring = none ∧ t.measuredInterval = none ∧ t.measuredTempo = none)
     ∧ ∀ (oldest newest : Time) (mid : List Time), ring = oldest :: (mid ++ [newest]) →
       let span : Int := (newest - oldest).toInt
       let gaps := mid.length + 1
       meanEdge ring = some (span / (gaps : Int))
       ∧ (0 ≤ span →
         let i := max 136533333 (min 2048000000
           ((2 * span.toNat * 65536 * tap.k + 96 * gaps) / (192 * gaps)))
         t.measuredInterval = some i ∧ IntervalLegal i
         ∧ t.measuredTempo = some ((2 * 4096000000000 + i) / (2 * i))))
  ∧ (∀ (k : Fin 4) (v : Tap) (cause : TapCause) (s : State),
       let told := State.postAll (s.setTap k v) (.tapState k v.state cause v.ring.length v.measuredTempo)
       ((s.tap k).state = v.state → s.changeTap k v cause = s.setTap k v)
       ∧ ((s.tap k).state ≠ v.state →
         (s.arbiter.leader ≠ .tap k ∨ v.state = .steady → s.changeTap k v cause = told)
         ∧ (s.arbiter.leader = .tap k → v.state ≠ .steady → s.changeTap k v cause =
           State.postAll { told.setTap k { v with follow := false } with
               arbiter := { s.arbiter with leader := .nobody, silenceExpiry := none }
               engine := { s.engine with slip := 0 } }
             (.freewheel .tapLost (.tap k)))))

/-- TAP_EDGE: an edge within 1,000 µs of the debounce reference is ignored; an outlier against a ring of three
or more is discarded and sets the suspect flag, or with the flag set restarts the ring; any other enters the
ring, whose oldest leaves a ring of 8. An edge that enters sets the silence deadline, and one of a STEADY tap
in follow mode then drives the lock loop (sections 5.2 to 5.4, 5.6). -/
def Obligations.TapEdgeIsDisposedOf : Prop :=
  ∀ (k : Fin 4) (s : State), s.rstLow = false →
    let tap := s.tap k
    let now := s.houseTime
    let e : Time := now - BitVec.ofInt 64 tap.offset
    let outlier : Prop := ∃ (oldest newest : Time) (mid : List Time),
      tap.ring = oldest :: (mid ++ [newest]) ∧ 1 ≤ mid.length ∧
        let mean : Int := (newest - oldest).toInt / ((mid.length + 1 : Nat) : Int)
        mean < 8 * |(e - newest).toInt - mean|
    let deadline : List Time → Time := fun ring =>
      now + BitVec.ofNat 64
        (if 4 ≤ ring.length then (4 * (meanEdge ring).getD 0).toNat else 2000000)
    let enters : List Time → Tap := fun ring =>
      { tap.withRing ring with
        suspect := false, debounceRef := some now, deadline := some (deadline ring) }
    (∀ d, tap.debounceRef = some d → (now - d).toNat < 1000 → exec (.tapEdge k) s = .next s)
    ∧ ((∀ d, tap.debounceRef = some d → 1000 ≤ (now - d).toNat) →
      (outlier → tap.suspect = false → exec (.tapEdge k) s =
        .next (s.setTap k { tap with debounceRef := some now, suspect := true }))
      ∧ (outlier → tap.suspect = true →
        exec (.tapEdge k) s = .next (s.changeTap k (enters [e]) .restart))
      ∧ (¬ outlier →
        let ring := (if tap.ring.length < 8 then tap.ring else tap.ring.drop 1) ++ [e]
        let t := s.changeTap k (enters ring) .edge
        exec (.tapEdge k) s = .next
          (match (t.tap k).follow, (t.tap k).state, (t.tap k).measuredInterval with
          | true, .steady, some m =>
            { t with engine := (t.engine.lockTempo m).lockPhase t.queue tap.k e }
          | _, _, _ => t)))

/-- The lock loop takes the interval a quarter of the way to the measured one, truncated toward zero, and
ends any glide; then, of the queue's records whose pulse is a multiple of 96 / k, it takes the one nearest the
edge, the earlier of two, and adds half the error to the slip under the half-beat clamp (section 5.6). -/
def Obligations.LockEdgeSteersTheEngine : Prop :=
  (∀ (e : Engine) (m : Nat), IntervalLegal e.interval → IntervalLegal m →
    let i := (e.interval : Int) + ((m : Int) - (e.interval : Int)).tdiv 4
    min e.interval m ≤ i.toNat ∧ i.toNat ≤ max e.interval m ∧ 0 ≤ i
    ∧ e.lockTempo m =
      { e with interval := i.toNat, glideTarget := i.toNat, glideStep := 0, glideCount := 0 })
  ∧ ∀ (e : Engine) (q : List PulseRecord) (k : Nat) (t : Time),
    let fits : PulseRecord → Prop := fun r => r.position.pulse % (96 / k) = 0
    let err : PulseRecord → Int := fun r => (t - r.refTime).toInt
    ((∀ r ∈ q, ¬ fits r) → e.lockPhase q k t = e)
    ∧ ∀ (a b : List PulseRecord) (r : PulseRecord), q = a ++ r :: b → fits r →
      (∀ x ∈ a, fits x → |err r| < |err x|) → (∀ x ∈ b, fits x → |err r| ≤ |err x|) →
      let bound : Int := 48 * (e.interval : Int)
      e.lockPhase q k t =
        { e with slip := max (-bound) (min bound (e.slip + (err r * 65536).tdiv 2)) }

/-- At its silence deadline a tap is emptied and told of; SET_TAP sets k and the offset, moving the ring with
the offset where k stays and emptying it where k changes; TAP_CLEAR empties a tap that is not SILENT; READ_TAP
reports it from any port. An unknown tap or k is refused RANGE (sections 5.4, 5.8). The layout of READ_TAP's
reply around its optional fields, and the four bytes, signed, of its mean edge interval, are the model's choice (log
entry 7). That an
event named before its instant changes nothing is the model's choice (log entry 22). -/
def Obligations.TapIsEmptiedSetAndRead : Prop :=
  let empty : Tap → Tap := fun v => { v with
    ring := [], state := .silent, suspect := false, deadline := none, measuredInterval := none
    measuredTempo := none }
  (∀ (k : Fin 4) (s : State),
    ((∀ t, (s.tap k).deadline = some t → s.houseTime.toNat < t.toNat) →
      exec (.tapSilenceDeadline k) s = .next s)
    ∧ ∀ t, (s.tap k).deadline = some t → t.toNat ≤ s.houseTime.toNat →
      exec (.tapSilenceDeadline k) s = .next (s.changeTap k (empty (s.tap k)) .silence))
  ∧ (∀ (p : Port) (tap n : Byte) (o : BitVec 32) (s : State), s.canCommand p (.setTap p tap n o) →
    let u := s.heard p (.setTap p tap n o)
    (3 < tap.toNat ∨ n ∉ ([1, 2, 4, 24] : List Byte) →
      exec (.setTap p tap n o) s = answers p 0x30 .range [] u)
    ∧ ∀ k : Fin 4, tap.toNat = k.val → n ∈ ([1, 2, 4, 24] : List Byte) →
      let v := s.tap k
      let off : Int := max (-250000) (min 250000 o.toInt)
      let st : Status := if off = o.toInt then .ok else .clamped
      let head := [tap, n] ++ toBytes 4 (BitVec.ofInt 32 off).toNat
      (v.k = n.toNat → exec (.setTap p tap n o) s =
        answers p 0x30 st (head ++ toBytes 1 v.state.code)
          (u.setTap k { v with
            offset := off, ring := v.ring.map fun e => e + BitVec.ofInt 64 (v.offset - off) }))
      ∧ (v.k ≠ n.toNat → exec (.setTap p tap n o) s =
        answers p 0x30 st (head ++ [0])
          (u.changeTap k { empty v with k := n.toNat, offset := off, debounceRef := none } .settings)))
  ∧ (∀ (p : Port) (tap : Byte) (s : State), s.canCommand p (.tapClear p tap) →
    let u := s.heard p (.tapClear p tap)
    (3 < tap.toNat → exec (.tapClear p tap) s = answers p 0x31 .range [] u)
    ∧ ∀ k : Fin 4, tap.toNat = k.val →
      ((s.tap k).state = .silent → exec (.tapClear p tap) s =
        answers p 0x31 .already [] (u.setTap k { s.tap k with debounceRef := none }))
      ∧ ((s.tap k).state ≠ .silent → exec (.tapClear p tap) s =
        answers p 0x31 .ok []
          (u.changeTap k { empty (s.tap k) with debounceRef := none } .clear)))
  ∧ ∀ (p : Port) (tap : Byte) (s : State), s.canTake p (.readTap p tap) →
    let u := s.heard p (.readTap p tap)
    (3 < tap.toNat → exec (.readTap p tap) s = answers p 0x32 .range [] u)
    ∧ ∀ k : Fin 4, tap.toNat = k.val →
      let v := s.tap k
      ∃ present : Byte,
        exec (.readTap p tap) s = answers p 0x32 .ok
          ([tap] ++ toBytes 1 v.state.code ++ toBytes 1 v.k
            ++ toBytes 4 (BitVec.ofInt 32 v.offset).toNat ++ toBytes 1 v.ring.length
            ++ v.ring.flatMap (fun e => toBytes 8 e.toNat) ++ [present]
            ++ toBytes 4 (BitVec.ofInt 32 ((meanEdge v.ring).getD 0)).toNat
            ++ toBytes 4 (v.measuredInterval.getD 0) ++ toBytes 2 (v.measuredTempo.getD 0)
            ++ [if v.suspect then 1 else 0] ++ [if v.follow then 1 else 0]
            ++ toBytes 4 ((v.deadline.map fun t => (t - s.houseTime).toNat / 1000).getD 0)) u
        ∧ (present.getLsbD 0 = true ↔ 2 ≤ v.ring.length)
        ∧ (present.getLsbD 1 = v.measuredInterval.isSome)
        ∧ (present.getLsbD 2 = v.measuredTempo.isSome)
        ∧ (present.getLsbD 3 = v.deadline.isSome)

/-! ### Cues -/

/-- SET_ALLOCATION is refused IN_USE below the port's cues and NO_ROOM above the remainder and is taken
otherwise; CANCEL_CUE removes the port's own cue of that id and tag and is answered TOO_LATE where there is
none; READ_CUES lists the port's cues from an index, at most 16 (sections 6.1, 6.5, 6.7). That SET_ALLOCATION's reply
gives the unallocated remainder in one byte is the model's choice (log entry 7). -/
def Obligations.AllocationAndOwnCues : Prop :=
  (∀ (p : Port) (n : Byte) (s : State), s.canCommand p (.setAllocation p n) →
    let u := s.heard p (.setAllocation p n)
    let held := s.cues.countP fun c => decide (c.owner = p)
    let sum := s.allocation .a + s.allocation .b + s.allocation .c + s.allocation .d
    let others := sum - s.allocation p
    let report : Nat → Nat → List Byte := fun mine left =>
      toBytes 1 mine ++ toBytes 1 held ++ toBytes 1 left
    (n.toNat < held → exec (.setAllocation p n) s =
      answers p 0x38 .inUse (report (s.allocation p) (128 - sum)) u)
    ∧ (held ≤ n.toNat → 128 < others + n.toNat → exec (.setAllocation p n) s =
      answers p 0x38 .noRoom (report (s.allocation p) (128 - sum)) u)
    ∧ (held ≤ n.toNat → others + n.toNat ≤ 128 → exec (.setAllocation p n) s =
      answers p 0x38 .ok (report n.toNat (128 - (others + n.toNat))) (u.setAllocation p n.toNat)))
  ∧ (∀ (p : Port) (id : Byte) (tag : BitVec 16) (s : State), s.canCommand p (.cancelCue p id tag) →
    let u := s.heard p (.cancelCue p id tag)
    let named : Cue → Prop := fun c => c.id = id.toNat ∧ c.owner = p ∧ c.tag = tag
    (127 < id.toNat → exec (.cancelCue p id tag) s = answers p 0x3A .range [] u)
    ∧ (id.toNat ≤ 127 → (∀ c ∈ s.cues, ¬ named c) →
      exec (.cancelCue p id tag) s = answers p 0x3A .tooLate [] u)
    ∧ ∀ (a b : List Cue) (c : Cue), id.toNat ≤ 127 → s.cues = a ++ c :: b → named c →
      (∀ d ∈ a ++ b, d.id ≠ c.id) →
      exec (.cancelCue p id tag) s = answers p 0x3A .ok
        ([id] ++ toBytes 2 tag.toNat ++ toBytes 2 c.fire.bar ++ toBytes 1 c.fire.beat
          ++ toBytes 1 c.fire.pulse) { u with cues := a ++ b })
  ∧ ∀ (p : Port) (first : Byte) (s : State), s.canCommand p (.readCues p first) →
    let u := s.heard p (.readCues p first)
    let own := s.cues.filter fun c => decide (c.owner = p)
    let page := (own.drop first.toNat).take 16
    exec (.readCues p first) s =
      if first.toNat ≤ 127 then
        answers p 0x3B .ok
          (toBytes 1 (s.allocation p) ++ toBytes 1 own.length ++ toBytes 1 page.length
            ++ page.flatMap Cue.bytes) u
      else answers p 0x3B .range [] u

/-- NEXT_BEAT, NEXT_BAR and NEXT_PHRASE k resolve to the first beat start, bar start, or start of a bar whose
number less one is a multiple of k, at or after the generator position, under the meter in effect there, and
to nothing where that lies beyond bar 65535; AT resolves to the position sent (section 6.2). -/
def Obligations.TriggersResolveForward : Prop :=
  ∀ (s : State) (m : Nat), s.gen.position.Legal m →
    (s.gen.position.barStart = false → s.engine.meter = m) →
    let x := s.gen.position
    let atBar : Prop := x.beat = 1 ∧ x.pulse = 0
    (∀ p, s.resolve (.at p) = some p)
    ∧ (atBar → s.resolve .nextBar = some x ∧ s.resolve .nextBeat = some x)
    ∧ (¬ atBar → s.resolve .nextBar = if x.bar < 65535 then some ⟨x.bar + 1, 1, 0⟩ else none)
    ∧ (x.pulse = 0 → s.resolve .nextBeat = some x)
    ∧ (x.pulse ≠ 0 → x.beat < m → s.resolve .nextBeat = some ⟨x.bar, x.beat + 1, 0⟩)
    ∧ (x.pulse ≠ 0 → x.beat = m →
      s.resolve .nextBeat = if x.bar < 65535 then some ⟨x.bar + 1, 1, 0⟩ else none)
    ∧ ∀ k, k ∈ ([2, 4, 8, 16] : List Nat) →
      let late : Nat → Prop := fun b => b < x.bar ∨ (b = x.bar ∧ ¬ atBar)
      (∀ y, s.resolve (.nextPhrase k) = some y →
        y.beat = 1 ∧ y.pulse = 0 ∧ k ∣ y.bar - 1 ∧ 1 ≤ y.bar ∧ y.bar ≤ 65535 ∧ ¬ late y.bar
        ∧ ∀ b, 1 ≤ b → k ∣ b - 1 → ¬ late b → y.bar ≤ b)
      ∧ (s.resolve (.nextPhrase k) = none → ∀ b, 1 ≤ b → b ≤ 65535 → k ∣ b - 1 → late b)

/-- SCHEDULE_CUE's checks in their order, once leadership has been checked: RANGE for a field out of range,
NOT_HELD, BUSY during the clear, NO_ROOM at a full allocation, PAST for a position that does not come; a cue
that passes takes the lowest empty slot and its place in the pool behind every cue of its own or an earlier
position. A trigger, a phrase k, an AT position and an argument are read as their ranges allow, a tempo value and
a glide length being brought to their limits. The pool is taken as lawful: `State.PoolInv` is kept by every step
(sections 6.1 to 6.3, 9.6). -/
def Obligations.ScheduledCueEntersThePool : Prop :=
  (∀ (r : RawCue) (t : Trigger), readTrigger r = some t ↔
    (r.trigger = 0 ∧ 1 ≤ r.bar.toNat ∧ 1 ≤ r.beat.toNat ∧ r.beat.toNat ≤ 16 ∧ r.pulse.toNat ≤ 95
      ∧ t = .at ⟨r.bar.toNat, r.beat.toNat, r.pulse.toNat⟩)
    ∨ (r.trigger = 1 ∧ t = .nextBeat) ∨ (r.trigger = 2 ∧ t = .nextBar)
    ∨ (r.trigger = 3 ∧ r.phraseK ∈ ([2, 4, 8, 16] : List Byte) ∧ t = .nextPhrase r.phraseK.toNat))
  ∧ (∀ (action : Byte) (args : BitVec 48) (a : CueAction) (cut : Bool),
    let first : BitVec 16 := (args >>> 32).setWidth 16
    let b : Nat → Nat := fun n => (args.toNat / 256 ^ (5 - n)) % 256
    (∃ k, readActionKind action = some k ∧ readAction k args = some (a, cut)) ↔
      (cut = false ∧
        ((action = 0 ∧ first ≠ 0 ∧ a = .mute first) ∨ (action = 1 ∧ first ≠ 0 ∧ a = .unmute first)
        ∨ (∃ j : Fin 4, action = 2 ∧ b 0 = j.val ∧ b 1 ≤ 127 ∧ b 2 ≤ 63 ∧ a = .loadRow j (b 1) (b 2))
        ∨ (∃ j : Fin 4, action = 3 ∧ b 0 = j.val ∧ b 1 ≤ 127 ∧ b 2 ≤ 31 ∧ a = .halfLoad j (b 1) (b 2))
        ∨ (action = 5 ∧ 1 ≤ b 0 ∧ b 0 ≤ 16 ∧ a = .meter (b 0))
        ∨ (action = 6 ∧ a = .stop) ∨ (action = 7 ∧ a = .mark)))
      ∨ (action = 4 ∧ a = .tempo (max 2000 (min 30000 first.toNat)) (min 64 (b 2))
        ∧ cut = decide (first.toNat < 2000 ∨ 30000 < first.toNat ∨ 64 < b 2)))
  ∧ ∀ (p : Port) (r : RawCue) (s : State), s.canCommand p (.scheduleCue p r) →
    (r.action ∈ ([4, 5, 6] : List Byte) → s.arbiter.leader = .port p) →
    let i : Instr := .scheduleCue p r
    let u := s.heard p i
    let x := s.gen.position
    (7 < r.action.toNat → exec i s = answers p 0x39 .range [] u)
    ∧ (readTrigger r = none ∨ 1 < r.policy.toNat → exec i s = answers p 0x39 .range [] u)
    ∧ (∀ k, readActionKind r.action = some k → readAction k r.arguments = none →
      exec i s = answers p 0x39 .range [] u)
    ∧ ∀ k t a cut, readActionKind r.action = some k → readTrigger r = some t → r.policy.toNat ≤ 1 →
      readAction k r.arguments = some (a, cut) →
      let needsLanes : BitVec 16 := match a with
        | .mute l => l
        | .unmute l => l
        | _ => 0
      let needsPlayer : Option (Fin 4) := match a with
        | .loadRow j _ _ => some j
        | .halfLoad j _ _ => some j
        | _ => none
      let right : Prop := (∀ l : Fin 16, needsLanes.getLsbD l = true → s.laneHolder l = some p)
        ∧ ∀ j, needsPlayer = some j → s.playerHolder j = some p
      let full : Prop := s.cueCount p = s.allocation p
      let free : Prop := right ∧ (s.clearing = false ∨ needsPlayer = none) ∧ ¬ full
      (¬ right → exec i s = answers p 0x39 .notHeld [] u)
      ∧ (right → s.clearing = true → needsPlayer ≠ none → exec i s = answers p 0x39 .busy [] u)
      ∧ (right → (s.clearing = false ∨ needsPlayer = none) → full →
        exec i s = answers p 0x39 .noRoom [] u)
      ∧ (free → s.resolve t = none → exec i s = answers p 0x39 .past [] u)
      ∧ ∀ q, free → s.resolve t = some q →
        (q.before x = true → r.policy = 0 → exec i s = answers p 0x39 .past [] u)
        ∧ (q.before x = false ∨ r.policy = 1 → s.PoolInv →
          let late := q.before x
          let y := if late then x else q
          ∃ (id : Nat) (before after : List Cue),
            s.cues = before ++ after
            ∧ (∀ c ∈ before, y.before c.fire = false) ∧ (∀ c ∈ after, y.before c.fire = true)
            ∧ id < 128 ∧ (∀ c ∈ s.cues, c.id ≠ id) ∧ (∀ n < id, ∃ c ∈ s.cues, c.id = n)
            ∧ exec i s = answers p 0x39 (if cut then .clamped else .ok)
                (toBytes 1 id ++ toBytes 2 r.tag.toNat ++ toBytes 2 y.bar ++ toBytes 1 y.beat
                  ++ toBytes 1 y.pulse ++ [if late then 1 else 0])
                { u with cues := before ++
                  ⟨id, p, r.tag, t, y, a, if r.policy = 0 then .drop else .fire, late, false⟩
                    :: after })

/-- The firing of one due cue, the rest of the pool being later and of other ids: the cue leaves the pool; its
rights are checked again; MUTE and UNMUTE act on the lanes still held, and every other cue acts whole or is
dropped with its reason; with a STOP cue the stop point is set. With no cue due nothing fires. The firing of
several is that of the first alone and then that of the rest on the state it left, the notices in that order and
each lane with the last change it is given. The firing of any number leaves the cues that are not due, and
everything but the pool, the players and the engine, as it stands (sections 3.2, 6.1, 6.4). -/
def Obligations.DueCuesFireOrAreDropped : Prop :=
  (∀ (s : State) (c : Cue) (rest : List Cue), s.cues = c :: rest →
     s.gen.position.before c.fire = false →
     (∀ d ∈ rest, s.gen.position.before d.fire = true ∧ d.id ≠ c.id) →
     let f := s.fireCues
     let o := c.owner
     let left : State := { s with cues := rest }
     let none16 : Vector (Option Mute) 16 := Vector.replicate 16 none
     let dropped : DropReason → Firing := fun why =>
       ⟨left, none16, [(o, .cueDropped c.id c.tag c.action.kind why c.fire)], false⟩
     let fired : State → Bool → Firing := fun t stop =>
       ⟨t, none16, [(o, .cueFired c.id c.tag c.action.kind false 0)], stop⟩
     let mutes : BitVec 16 → Mute → Prop := fun lanes m =>
       let on : Fin 16 → Bool := fun l => lanes.getLsbD l && decide (s.laneHolder l = some o)
       ((∀ l, on l = false) → f = dropped .notHeld)
       ∧ ((∃ l, on l = true) → f.state = left ∧ f.stop = false
         ∧ (∀ l : Fin 16, f.changes[l] = if on l then some m else none)
         ∧ ∃ applied : BitVec 16, (∀ l : Fin 16, applied.getLsbD l = on l)
           ∧ f.given = [(o, .cueFired c.id c.tag c.action.kind (decide (applied ≠ lanes)) applied)])
     (∀ lanes, c.action = .mute lanes → mutes lanes .muted)
     ∧ (∀ lanes, c.action = .unmute lanes → mutes lanes .unmuted)
     ∧ (∀ j row tap, c.action = .loadRow j row tap →
       f = if s.playerHolder j = some o then
           fired (left.setPlayer j ((s.player j).loadRow s.patternMem row tap true)) false
         else dropped .notHeld)
     ∧ (∀ j row tap, c.action = .halfLoad j row tap →
       f = if s.playerHolder j ≠ some o then dropped .notHeld
         else if (s.player j).primed = false then dropped .notPrimed
         else if (s.player j).rowJump ≠ none then dropped .busy
         else fired (left.setPlayer j ((s.player j).loadHalf s.patternMem row tap)) false)
     ∧ (∀ v g, c.action = .tempo v g →
       f = if s.arbiter.leader = .port o then
           fired { left with engine := s.engine.startTempo v g } false
         else dropped .notLeader)
     ∧ (∀ m, c.action = .meter m →
       f = if s.arbiter.leader = .port o then
           fired { left with engine := { s.engine with pendingMeter := some m } } false
         else dropped .notLeader)
     ∧ (c.action = .stop →
       f = if s.arbiter.leader = .port o then fired left true else dropped .notLeader)
     ∧ (c.action = .mark → f = fired left false))
  ∧ (∀ s : State, (∀ c ∈ s.cues, s.gen.position.before c.fire = true) →
       s.fireCues = ⟨s, Vector.replicate 16 none, [], false⟩)
  ∧ (∀ (s : State) (c : Cue) (rest : List Cue), s.cues = c :: rest →
       s.gen.position.before c.fire = false → (∀ d ∈ rest, d.id ≠ c.id) →
       let first := State.fireCues { s with cues := [c] }
       let others := State.fireCues { first.state with cues := rest }
       let f := s.fireCues
       f.state = others.state ∧ f.given = first.given ++ others.given
       ∧ f.stop = (first.stop || others.stop)
       ∧ ∀ l : Fin 16, f.changes[l] =
         match others.changes[l] with
         | some m => some m
         | none => first.changes[l])
  ∧ (∀ s : State, s.cues.Pairwise (fun c d => c.id ≠ d.id) →
       let f := s.fireCues
       f.state.cues = s.cues.filter (fun c => s.gen.position.before c.fire)
       ∧ f.given.length = s.cues.countP (fun c => !s.gen.position.before c.fire)
       ∧ f.state = { s with
           cues := f.state.cues, players := f.state.players, engine := f.state.engine }
       ∧ (f.state.engine.slip = s.engine.slip ∧ f.state.engine.meter = s.engine.meter)
       ∧ ∀ j, s.playerHolder j = none → f.state.player j = s.player j)

/-! ### Patterns and players -/

/-- WRITE_STEPS writes the levels it carries into each step of its run, cut at step 63, through the effective
plane set: the command's own in ONE_SHOT mode, the held one in HELD mode. Every other cell keeps its level, and
a row, first step or count out of range, or too few levels, is refused RANGE (sections 7.2, 7.3). The memory is
taken in its canonical form: `State.MemoryInv` is kept by every step. -/
def Obligations.WriteStepsWritesItsRun : Prop :=
  ∀ (p : Port) (row first count planes : Byte) (levels : List (BitVec 16)) (s : State),
    let i : Instr := .writeSteps p row first count planes levels
    s.canCommand p i → s.clearing = false → s.MemoryInv →
    let u := s.heard p i
    let eff := if (s.writeSetting p).mode = .oneShot then planes else (s.writeSetting p).heldSet
    let n := min count.toNat (64 - first.toNat)
    (127 < row.toNat ∨ 63 < first.toNat ∨ levels.length < count.toNat →
      exec i s = answers p 0x40 .range [] u)
    ∧ (row.toNat ≤ 127 → first.toNat ≤ 63 → count.toNat ≤ levels.length → ∃ m,
      exec i s = answers p 0x40 (if 64 < first.toNat + count.toNat then .clamped else .ok)
        ([row, first] ++ toBytes 1 n ++ [eff]) { u with patternMem := m }
      ∧ Memory.wf cellsInMemory m = true
      ∧ ∀ r j q, j < 64 → q < 8 → levelAt m (cellAddress r j q) =
        if r = row.toNat ∧ first.toNat ≤ j ∧ j < first.toNat + n ∧ eff.getLsbD q = true then
          ((levels.getD (j - first.toNat) 0) >>> (2 * (7 - q))).setWidth 2
        else levelAt s.patternMem (cellAddress r j q))

/-- BLOCK_FILL and ROW_FILL write the port's fill level of each plane of the effective set into the steps of the
four-step group whose positions are in the set, and into all 64 steps of a row; every other cell keeps its
level (section 7.3). The memory is taken in its canonical form: `State.MemoryInv` is kept by every step. How
BLOCK_FILL's reply lists the steps written is the model's choice (log entry 7). -/
def Obligations.FillsWriteTheFillRegister : Prop :=
  (∀ (p : Port) (row step positions planes : Byte) (s : State),
    let i : Instr := .blockFill p row step positions planes
    s.canCommand p i → s.clearing = false → s.MemoryInv →
    let u := s.heard p i
    let w := s.writeSetting p
    let eff := if w.mode = .oneShot then planes else w.heldSet
    let base := step.toNat / 4 * 4
    (127 < row.toNat ∨ 63 < step.toNat → exec i s = answers p 0x45 .range [] u)
    ∧ (row.toNat ≤ 127 → step.toNat ≤ 63 → ∃ m,
      let written := (List.range 64).filter fun j =>
        decide (base ≤ j) && decide (j < base + 4) && positions.getLsbD (j - base)
      exec i s = answers p 0x45 .ok
        ([row] ++ toBytes 1 base ++ toBytes 1 written.length ++ written.flatMap (toBytes 1) ++ [eff])
        { u with patternMem := m }
      ∧ Memory.wf cellsInMemory m = true
      ∧ ∀ r j q, (h : q < 8) → j < 64 → levelAt m (cellAddress r j q) =
        if r = row.toNat ∧ j ∈ written ∧ eff.getLsbD q = true then w.fill[q]
        else levelAt s.patternMem (cellAddress r j q)))
  ∧ ∀ (p : Port) (row planes : Byte) (s : State),
    let i : Instr := .rowFill p row planes
    s.canCommand p i → s.clearing = false → s.MemoryInv →
    let u := s.heard p i
    let w := s.writeSetting p
    let eff := if w.mode = .oneShot then planes else w.heldSet
    (127 < row.toNat → exec i s = answers p 0x46 .range [] u)
    ∧ (row.toNat ≤ 127 → ∃ m,
      exec i s = answers p 0x46 .ok [row, eff] { u with patternMem := m }
      ∧ Memory.wf cellsInMemory m = true
      ∧ ∀ r j q, (h : q < 8) → j < 64 → levelAt m (cellAddress r j q) =
        if r = row.toNat ∧ eff.getLsbD q = true then w.fill[q]
        else levelAt s.patternMem (cellAddress r j q))

/-- READ_STEPS gives the levels of its run, two bytes a step with plane 0 in the top bits; LOAD_MASK, MASK_RESET
and LOAD_FILL set the port's own write settings; the clear ends at house time 4,000 with every cell 0
(sections 7.1 to 7.3, 9.6). What MASK_RESET's replies carry, and that READ_STEPS sends the row, the first step and
the number before the levels, are the model's choice (log entry 7). That an event named before its instant
changes nothing is the model's choice (log entry 22). -/
def Obligations.PatternReadsMasksAndClear : Prop :=
  (∀ (p : Port) (row first count : Byte) (s : State), s.canCommand p (.readSteps p row first count) →
    s.clearing = false →
    let u := s.heard p (.readSteps p row first count)
    let n := min count.toNat (64 - first.toNat)
    (127 < row.toNat ∨ 63 < first.toNat →
      exec (.readSteps p row first count) s = answers p 0x41 .range [] u)
    ∧ (row.toNat ≤ 127 → first.toNat ≤ 63 → ∃ b : List Byte,
      exec (.readSteps p row first count) s =
        answers p 0x41 (if 64 < first.toNat + count.toNat then .clamped else .ok)
          ([row, first] ++ toBytes 1 n ++ b) u
      ∧ b.length = 2 * n
      ∧ ∀ j q, j < n → q < 8 →
        ((b.getD (2 * j + q / 4) 0) >>> (2 * (3 - q % 4))).setWidth 2 =
          levelAt s.patternMem (cellAddress row.toNat (first.toNat + j) q)))
  ∧ (∀ (p : Port) (planes : Byte) (s : State), s.canCommand p (.loadMask p planes) →
    s.clearing = false →
    exec (.loadMask p planes) s = answers p 0x42 .ok [1, planes]
      (State.setWriteSetting (s.heard p (.loadMask p planes)) p
        ⟨.held, planes, (s.writeSetting p).fill⟩))
  ∧ (∀ (p : Port) (s : State), s.canCommand p (.maskReset p) → s.clearing = false →
    let w := s.writeSetting p
    exec (.maskReset p) s =
      if w.mode = .oneShot then answers p 0x43 .already [0, w.heldSet] (s.heard p (.maskReset p))
      else answers p 0x43 .ok [0, 0]
        (State.setWriteSetting (s.heard p (.maskReset p)) p ⟨.oneShot, 0, w.fill⟩))
  ∧ (∀ (p : Port) (l : BitVec 16) (s : State), s.canCommand p (.loadFill p l) → s.clearing = false →
    ∃ fill : Levels,
      exec (.loadFill p l) s = answers p 0x44 .ok (toBytes 2 l.toNat)
        (State.setWriteSetting (s.heard p (.loadFill p l)) p { s.writeSetting p with fill := fill })
      ∧ ∀ q : Fin 8, fill[q] = (l >>> (2 * (7 - q.val))).setWidth 2)
  ∧ ∀ s : State,
    (s.rstLow = false → s.clearing = true → 4000 ≤ s.houseTime.toNat →
      exec .patternClearEnd s = .next { s with clearing := false, patternMem := [] })
    ∧ (s.rstLow = true ∨ s.clearing = false ∨ s.houseTime.toNat < 4000 →
      exec .patternClearEnd s = .next s)
    ∧ ∀ a, levelAt [] a = 0

/-- LOAD_ROW and HALF_LOAD are refused RANGE, NOT_HELD, NOT_PRIMED and BUSY in that order, as their rules give;
a LOAD_ROW copies the row and places the cursor or leaves a row jump pending while records are made; a
HALF_LOAD copies the half of the row that does not hold the cursor and sets its tap; SET_STEP_LENGTH leaves a
length of 1-96 pending; READ_PLAYER reports a player from any open port. Only the player changes (sections
7.4, 7.5). The layout of READ_PLAYER's reply around its optional fields is the model's choice (log entry 7), and
so is the one byte of a step length (log entry 28). -/
def Obligations.PlayersAreLoadedSetAndRead : Prop :=
  ((∀ (p : Port) (n row tap : Byte) (s : State), s.canCommand p (.loadRow p n row tap) →
     s.clearing = false →
     let i : Instr := .loadRow p n row tap
     let u := s.heard p i
     (3 < n.toNat ∨ 127 < row.toNat ∨ 63 < tap.toNat → exec i s = answers p 0x48 .range [] u)
     ∧ ∀ j : Fin 4, n.toNat = j.val → row.toNat ≤ 127 → tap.toNat ≤ 63 →
       (s.playerHolder j ≠ some p → exec i s = answers p 0x48 .notHeld [] u)
       ∧ (s.playerHolder j = some p →
         let making := decide (s.transport.state = .running ∨ s.transport.state = .stopPending)
         let old := s.player j
         ∃ reg, exec i s = answers p 0x48 .ok [n, row, tap, if making then 1 else 0]
           (u.setPlayer j ⟨true, reg, row.toNat, row.toNat,
             if making = true ∧ old.primed = true then old.cursor else tap.toNat, tap.toNat,
             old.stepLength, old.pendingLength, none, if making then some tap.toNat else none⟩)
           ∧ ∀ step q, step < 64 → q < 8 →
             levelAt reg (step * 8 + q) = levelAt s.patternMem (cellAddress row.toNat step q)))
   ∧ ∀ (p : Port) (n row tap : Byte) (s : State), s.canCommand p (.halfLoad p n row tap) →
     s.clearing = false →
     let i : Instr := .halfLoad p n row tap
     let u := s.heard p i
     (3 < n.toNat ∨ 127 < row.toNat ∨ 31 < tap.toNat → exec i s = answers p 0x49 .range [] u)
     ∧ ∀ j : Fin 4, n.toNat = j.val → row.toNat ≤ 127 → tap.toNat ≤ 31 →
       let old := s.player j
       let lower : Bool := decide (32 ≤ old.cursor)
       (s.playerHolder j ≠ some p → exec i s = answers p 0x49 .notHeld [] u)
       ∧ (s.playerHolder j = some p → old.primed = false →
         exec i s = answers p 0x49 .notPrimed [] u)
       ∧ (s.playerHolder j = some p → old.primed = true → old.rowJump ≠ none →
         exec i s = answers p 0x49 .busy [] u)
       ∧ (s.playerHolder j = some p → old.primed = true → old.rowJump = none → ∃ reg,
         exec i s = answers p 0x49 .ok [n, if lower then 0 else 1, row, tap]
           (u.setPlayer j { old with
             register := reg
             sourceLower := if lower then row.toNat else old.sourceLower
             sourceUpper := if lower then old.sourceUpper else row.toNat
             halfTap := some (if lower then .lower else .upper, tap.toNat) })
         ∧ ∀ step q, step < 64 → q < 8 → levelAt reg (step * 8 + q) =
           if decide (step < 32) = lower then levelAt s.patternMem (cellAddress row.toNat step q)
           else levelAt old.register (step * 8 + q)))
  ∧ ((∀ (p : Port) (n l : Byte) (s : State), s.canCommand p (.setStepLength p n l) → s.clearing = false →
       let i : Instr := .setStepLength p n l
       let u := s.heard p i
       let v := max 1 (min 96 l.toNat)
       (3 < n.toNat → exec i s = answers p 0x4A .range [] u)
       ∧ ∀ j : Fin 4, n.toNat = j.val →
         (s.playerHolder j ≠ some p → exec i s = answers p 0x4A .notHeld [] u)
         ∧ (s.playerHolder j = some p →
           exec i s = answers p 0x4A (if l.toNat = v then .ok else .clamped)
             (toBytes 1 (s.player j).stepLength ++ toBytes 1 v)
             (u.setPlayer j { s.player j with pendingLength := some v })))
     ∧ ∀ (p : Port) (n w : Byte) (s : State), s.canCommand p (.readPlayer p n w) → s.clearing = false →
       let i : Instr := .readPlayer p n w
       let u := s.heard p i
       (3 < n.toNat ∨ 1 < w.toNat → exec i s = answers p 0x4B .range [] u)
       ∧ ∀ j : Fin 4, n.toNat = j.val → w.toNat ≤ 1 →
         let pl := s.player j
         ∃ (present : Byte) (reg : List Byte),
           exec i s = answers p 0x4B .ok
             ([n] ++ [if pl.primed then 1 else 0] ++ toBytes 1 (portCode (s.playerHolder j))
               ++ toBytes 1 pl.cursor ++ toBytes 1 pl.home ++ toBytes 1 pl.stepLength ++ [present]
               ++ toBytes 1 (pl.pendingLength.getD 0)
               ++ (match pl.halfTap with
                 | some (.lower, t) => [0] ++ toBytes 1 t
                 | some (.upper, t) => [1] ++ toBytes 1 t
                 | none => [0, 0])
               ++ toBytes 1 (pl.rowJump.getD 0) ++ toBytes 1 pl.sourceLower
               ++ toBytes 1 pl.sourceUpper ++ reg) u
           ∧ (present.getLsbD 0 = pl.pendingLength.isSome) ∧ (present.getLsbD 1 = pl.halfTap.isSome)
           ∧ (present.getLsbD 2 = pl.rowJump.isSome) ∧ (present.getLsbD 3 = decide (w = 1))
           ∧ reg.length = 128
           ∧ (w = 0 → reg = List.replicate 128 0)
           ∧ (w = 1 → ∀ step q, step < 64 → q < 8 →
             ((reg.getD (2 * step + q / 4) 0) >>> (2 * (3 - q % 4))).setWidth 2 =
               levelAt pl.register (step * 8 + q)))

/-- What a player does at a record: a pending length becomes L at a bar start; the record is a step start of a
primed player when it is the launch record or its index is a multiple of L; at a launch the cursor goes home;
at any other step start it takes the row jump, or advances, entering a half at its tap where one is pending;
elsewhere it stays. A bar start has index 0, so steps realign there. The step entries of the record are those
of the players that begin a step, P0 to P3, each with the cursor's step and its eight levels, and a crossing
gives HALF_FREE to the player's holder alone (sections 3.2, 7.4). -/
def Obligations.PlayerMovesAtAStepStart : Prop :=
  ((∀ (launch bar : Bool) (index : Nat) (pl : Player),
     let len := if bar then pl.pendingLength.getD pl.stepLength else pl.stepLength
     let r := pl.atRecord launch bar index
     let starts : Prop := pl.primed = true ∧ (launch = true ∨ len ∣ index)
     r.1.stepLength = len
     ∧ (bar = true → r.1.pendingLength = none) ∧ (bar = false → r.1.pendingLength = pl.pendingLength)
     ∧ r.1 = { pl with
         stepLength := len, pendingLength := r.1.pendingLength, cursor := r.1.cursor
         halfTap := r.1.halfTap, rowJump := r.1.rowJump }
     ∧ (r.2.1 = true ↔ starts)
     ∧ (¬ starts → r.1.cursor = pl.cursor ∧ r.1.halfTap = pl.halfTap ∧ r.1.rowJump = pl.rowJump
       ∧ r.2.2 = false)
     ∧ (starts → launch = true → r.2.2 = false ∧ r.1.rowJump = none
       ∧ (∀ h t, pl.halfTap = some (h, t) → h = halfOf pl.home →
         r.1.cursor = h.start + t ∧ r.1.halfTap = none)
       ∧ ((∀ h t, pl.halfTap = some (h, t) → h ≠ halfOf pl.home) →
         r.1.cursor = pl.home ∧ r.1.halfTap = pl.halfTap))
     ∧ (starts → launch = false →
       (r.2.2 = true ↔ halfOf r.1.cursor ≠ halfOf pl.cursor)
       ∧ r.1.rowJump = none
       ∧ (∀ j, pl.rowJump = some j → r.1.cursor = j ∧ r.1.halfTap = pl.halfTap)
       ∧ (pl.rowJump = none →
         (pl.cursor ≠ 31 → pl.cursor ≠ 63 →
           r.1.cursor = pl.cursor + 1 ∧ r.1.halfTap = pl.halfTap)
         ∧ ∀ h : Half, pl.cursor = (if h = .upper then 31 else 63) →
           (∀ t, pl.halfTap = some (h, t) → r.1.cursor = h.start + t ∧ r.1.halfTap = none)
           ∧ ((∀ t, pl.halfTap ≠ some (h, t)) →
             r.1.cursor = h.start ∧ r.1.halfTap = pl.halfTap))))
   ∧ ∀ s : State, s.gen.position.barStart = true → s.gen.position.index = 0)
  ∧ (∀ (s : State) (launch : Bool),
       let after := s.playersAt launch
       (∀ i : Fin 4, after[i] =
         (s.player i).atRecord launch s.gen.position.barStart s.gen.position.index)
       ∧ (∀ (i : Fin 4) (k : Nat) (ls : Levels), (⟨i, k, ls⟩ : StepEntry) ∈ stepEntries after ↔
         after[i].2.1 = true ∧ k = after[i].1.cursor
           ∧ ∀ q : Fin 8, ls[q] = levelAt after[i].1.register (k * 8 + q.val))
       ∧ (stepEntries after).Pairwise (fun a b => a.player < b.player)
       ∧ ∀ (p : Port) (b : NoticeBody), (p, b) ∈ s.halfFrees after ↔
         ∃ i : Fin 4, after[i].2.2 = true ∧ s.playerHolder i = some p
           ∧ b = if after[i].1.cursor < 32
               then .halfFree i .upper after[i].1.cursor after[i].1.sourceLower
               else .halfFree i .lower after[i].1.cursor after[i].1.sourceUpper)

/-! ### Claims and lanes -/

/-- CLAIM_LANES and CLAIM_PLAYER take their whole range or, where another port holds part of it, none of it,
naming the lowest such entry and its holder; RELEASE_LANES and RELEASE_PLAYER give up what the port holds of
the range; a range past the end or of none is refused RANGE (section 8.1). What the releases and the player
claims reply besides their status, and that a claim's reply gives the range as its first number and its count, one
byte each, are the model's choice (log entry 7). -/
def Obligations.ClaimsAreTakenWhole : Prop :=
  let bad : Nat → Byte → Byte → Prop := fun size f n =>
    size ≤ f.toNat ∨ n = 0 ∨ size < f.toNat + n.toNat
  let inside : Byte → Byte → Nat → Prop := fun f n k => f.toNat ≤ k ∧ k < f.toNat + n.toNat
  (∀ (p : Port) (f n : Byte) (s : State), s.canCommand p (.claimLanes p f n) →
    let i : Instr := .claimLanes p f n
    let u := s.heard p i
    (bad 16 f n → exec i s = answers p 0x50 .range [] u)
    ∧ (∀ (l : Fin 16) (q : Port), ¬ bad 16 f n → inside f n l.val → s.laneHolder l = some q → q ≠ p →
      (∀ k : Fin 16, inside f n k.val → k < l → s.laneHolder k = none ∨ s.laneHolder k = some p) →
      exec i s = answers p 0x50 .held [BitVec.ofNat 8 l.val, BitVec.ofNat 8 (q.idx.val + 1)] u)
    ∧ (¬ bad 16 f n →
      (∀ l : Fin 16, inside f n l.val → s.laneHolder l = none ∨ s.laneHolder l = some p) →
      ∃ (table : Vector (Option Port) 16) (held : BitVec 16) (st : Status),
        exec i s = answers p 0x50 st ([f, n] ++ toBytes 2 held.toNat) { u with laneClaims := table }
        ∧ (st = .already ∨ st = .ok)
        ∧ (st = .already ↔ ∀ l : Fin 16, inside f n l.val → s.laneHolder l = some p)
        ∧ (∀ l : Fin 16, inside f n l.val → table[l] = some p)
        ∧ (∀ l : Fin 16, ¬ inside f n l.val → table[l] = s.laneHolder l)
        ∧ ∀ l : Fin 16, held.getLsbD l.val = decide (table[l] = some p)))
  ∧ (∀ (p : Port) (f n : Byte) (s : State), s.canCommand p (.releaseLanes p f n) →
    let i : Instr := .releaseLanes p f n
    let u := s.heard p i
    (bad 16 f n → exec i s = answers p 0x51 .range [] u)
    ∧ (¬ bad 16 f n → ∃ (table : Vector (Option Port) 16) (held : BitVec 16) (st : Status),
      exec i s = answers p 0x51 st (toBytes 2 held.toNat) { u with laneClaims := table }
      ∧ (st = .already ∨ st = .ok)
      ∧ (st = .ok ↔ ∃ l : Fin 16, inside f n l.val ∧ s.laneHolder l = some p)
      ∧ (∀ l : Fin 16, inside f n l.val → s.laneHolder l = some p → table[l] = none)
      ∧ (∀ l : Fin 16, ¬ (inside f n l.val ∧ s.laneHolder l = some p) → table[l] = s.laneHolder l)
      ∧ ∀ l : Fin 16, held.getLsbD l.val = decide (table[l] = some p)))
  ∧ (∀ (p : Port) (f n : Byte) (s : State), s.canCommand p (.claimPlayer p f n) →
    let i : Instr := .claimPlayer p f n
    let u := s.heard p i
    (bad 4 f n → exec i s = answers p 0x52 .range [] u)
    ∧ (∀ (j : Fin 4) (q : Port), ¬ bad 4 f n → inside f n j.val → s.playerHolder j = some q → q ≠ p →
      (∀ k : Fin 4, inside f n k.val → k < j →
        s.playerHolder k = none ∨ s.playerHolder k = some p) →
      exec i s = answers p 0x52 .held [BitVec.ofNat 8 j.val, BitVec.ofNat 8 (q.idx.val + 1)] u)
    ∧ (¬ bad 4 f n →
      (∀ j : Fin 4, inside f n j.val → s.playerHolder j = none ∨ s.playerHolder j = some p) →
      ∃ (table : Vector (Option Port) 4) (held : BitVec 8) (st : Status),
        exec i s = answers p 0x52 st ([f, n] ++ [held]) { u with playerClaims := table }
        ∧ (st = .already ∨ st = .ok)
        ∧ (st = .already ↔ ∀ j : Fin 4, inside f n j.val → s.playerHolder j = some p)
        ∧ (∀ j : Fin 4, inside f n j.val → table[j] = some p)
        ∧ (∀ j : Fin 4, ¬ inside f n j.val → table[j] = s.playerHolder j)
        ∧ ∀ j : Fin 4, held.getLsbD j.val = decide (table[j] = some p)))
  ∧ ∀ (p : Port) (f n : Byte) (s : State), s.canCommand p (.releasePlayer p f n) →
    let i : Instr := .releasePlayer p f n
    let u := s.heard p i
    (bad 4 f n → exec i s = answers p 0x53 .range [] u)
    ∧ (¬ bad 4 f n → ∃ (table : Vector (Option Port) 4) (held : BitVec 8) (st : Status),
      exec i s = answers p 0x53 st [held] { u with playerClaims := table }
      ∧ (st = .already ∨ st = .ok)
      ∧ (st = .ok ↔ ∃ j : Fin 4, inside f n j.val ∧ s.playerHolder j = some p)
      ∧ (∀ j : Fin 4, inside f n j.val → s.playerHolder j = some p → table[j] = none)
      ∧ (∀ j : Fin 4, ¬ (inside f n j.val ∧ s.playerHolder j = some p) →
        table[j] = s.playerHolder j)
      ∧ ∀ j : Fin 4, held.getLsbD j.val = decide (table[j] = some p))

/-- SET_LANE from the lane's holder takes the whole record with its widths and offset brought into range; it is
refused NOT_HELD from another port, RANGE for a field out of range, and LOCKED where the transport is not
STOPPED, the lane neither OFF nor MUTED, and a locked field would change. Going OFF takes away the cursor, the
pulse and the run; a change that leaves mode and offset as they are changes nothing but the record; a lane leaving
or entering RUN loses its run flag and run end and keeps its cursor and pulse; and a lane that comes from OFF, or
whose offset changes, seats its cursor, passing over the records whose time has come; one that enters RUN from OFF
is seated after the launch record, its run flag clear (sections 8.2 to 8.4). That this holds before the launch
record's R + o too, where a lane in another mode is seated on it, is how the model reads two rules together (log
entry 30). What a lane leaving RUN with a pulse in progress keeps, and what a RUN lane's output does where it passes
over records, are the model's readings (log entries 18 and 19). That a run end already past becomes absent where a
RUN lane passes over the last record is the model's choice (log entry 29). -/
def Obligations.SetLaneReplacesTheRecord : Prop :=
  ∀ (p : Port) (n : Byte) (r : RawLaneSettings) (s : State), s.canCommand p (.setLane p n r) →
    let i : Instr := .setLane p n r
    let u := s.heard p i
    (15 < n.toNat → exec i s = answers p 0x54 .range [] u)
    ∧ ∀ l : Fin 16, n.toNat = l.val →
      let old := s.lane l
      (s.laneHolder l ≠ some p → exec i s = answers p 0x54 .notHeld [] u)
      ∧ (s.laneHolder l = some p →
        (3 < r.mode.toNat ∨ 1 < r.base.toNat ∨ 1 < r.polarity.toNat ∨ r.divisor.toNat < 1
            ∨ 384 < r.divisor.toNat ∨ r.divisor.toNat ≤ r.phase.toNat ∨ 3 < r.srcPlayer.toNat
            ∨ 7 < r.srcPlane.toNat →
          exec i s = answers p 0x54 .range [] u)
        ∧ ∀ g : LaneSettings, g.mode.code = r.mode.toNat → g.base.code = r.base.toNat →
          g.polarity.code = r.polarity.toNat → g.divisor = r.divisor.toNat →
          g.phase = r.phase.toNat → 1 ≤ g.divisor → g.divisor ≤ 384 → g.phase < g.divisor →
          g.srcPlayer.val = r.srcPlayer.toNat → g.srcPlane.val = r.srcPlane.toNat →
          g.clockWidth = max 1 (min 100000 r.clockWidth.toNat) →
          g.soft = max 1 (min 100000 r.soft.toNat) →
          g.normal = max 1 (min 100000 r.normal.toNat) →
          g.accent = max 1 (min 100000 r.accent.toNat) →
          g.offset = max (-(s.horizonUs : Int)) (min 250000 r.offset.toInt) →
          let h := old.settings
          let same : Prop := g.mode = h.mode ∧ g.divisor = h.divisor ∧ g.phase = h.phase
            ∧ g.base = h.base ∧ g.srcPlayer = h.srcPlayer ∧ g.srcPlane = h.srcPlane
            ∧ r.offset.toInt = h.offset ∧ g.polarity = h.polarity
          let locked : Prop := s.transport.state ≠ .stopped ∧ h.mode ≠ .off ∧ old.mute = .unmuted
          let exact : Prop := g.clockWidth = r.clockWidth.toNat ∧ g.soft = r.soft.toNat
            ∧ g.normal = r.normal.toNat ∧ g.accent = r.accent.toNat ∧ g.offset = r.offset.toInt
          (locked → ¬ same → exec i s = answers p 0x54 .locked [] u)
          ∧ (¬ locked ∨ same → ∃ (d : Lane) (st : Status),
            exec i s = answers p 0x54 st g.bytes (u.setLane l d)
            ∧ (st = .ok ∨ st = .clamped) ∧ (st = .ok ↔ exact)
            ∧ d.settings = g ∧ d.launchRef = old.launchRef
            ∧ (g.mode = .off → h.mode ≠ .off → d = { old with
                settings := g, cursor := none, pulseEnd := none, output := .inactive
                runFlag := false, runEnd := none })
            ∧ (g.mode = h.mode → (g.offset = h.offset ∨ g.mode = .off) →
              d = { old with settings := g })
            ∧ (g.mode ≠ .off →
              let base : Lane :=
                if h.mode = .run ∧ g.mode ≠ .run then
                  { old with
                    settings := g, runFlag := false, runEnd := none
                    output := if old.pulseEnd.isSome then old.output else .inactive }
                else if h.mode ≠ .run ∧ g.mode = .run then
                  { old with settings := g, runFlag := false, runEnd := none }
                else { old with settings := g }
              (h.mode ≠ .off → g.offset = h.offset → d = base)
              ∧ (h.mode = .off ∨ g.offset ≠ h.offset →
                base.Reseats l s.houseTime s.queue d))
            ∧ (h.mode = .run → g.mode ≠ .run → g.offset = h.offset →
              d.runFlag = false ∧ d.runEnd = none ∧ (g.mode ≠ .off → d.cursor = old.cursor)
              ∧ (d.output = if old.pulseEnd.isSome ∧ g.mode ≠ .off then old.output else .inactive))
            ∧ (g.mode ≠ .off → h.mode = .off → old.cursor = none → ∃ a b,
              s.queue = a ++ b
              ∧ (∀ x ∈ a, (x.refTime + BitVec.ofInt 64 g.offset).toNat ≤ s.houseTime.toNat
                ∨ (g.mode = .run ∧ x.markers.launch = true))
              ∧ (∀ x, b.head? = some x → d.cursor = some (.at x.pulse)
                ∧ s.houseTime.toNat < (x.refTime + BitVec.ofInt 64 g.offset).toNat
                ∧ ¬ (g.mode = .run ∧ x.markers.launch = true))
              ∧ (b = [] → d.cursor = some .next)
              ∧ (g.mode = .run → d.runFlag = false)
              ∧ d.mute = old.mute ∧ d.output = old.output)))

/-- MUTE and UNMUTE set the mute state of every lane of a set that the port holds whole and change nothing else;
an empty set is refused RANGE and one with a lane not held NOT_HELD. READ_LANE reports a lane from any open
port (sections 8.3, 8.6). The layout of READ_LANE's reply around its optional fields is the model's choice
(log entry 7). -/
def Obligations.LanesAreMutedAndRead : Prop :=
  (∀ (p : Port) (lanes : BitVec 16) (m : Mute) (s : State),
    let i : Instr := match m with
      | .muted => .mute p lanes
      | .unmuted => .unmute p lanes
    let code : Byte := match m with
      | .muted => 0x55
      | .unmuted => 0x56
    s.canCommand p i →
    let u := s.heard p i
    let holds : Prop := ∀ l : Fin 16, lanes.getLsbD l.val = true → s.laneHolder l = some p
    (lanes = 0 → exec i s = answers p code .range [] u)
    ∧ (lanes ≠ 0 → ¬ holds → exec i s = answers p code .notHeld [] u)
    ∧ (lanes ≠ 0 → holds → ∃ (table : Vector Lane 16) (muted : BitVec 16) (st : Status),
      exec i s = answers p code st (toBytes 2 muted.toNat) { u with lanes := table }
      ∧ (st = .already ∨ st = .ok)
      ∧ (st = .already ↔ ∀ l : Fin 16, lanes.getLsbD l.val = true → (s.lane l).mute = m)
      ∧ (∀ l : Fin 16, table[l] =
          if lanes.getLsbD l.val = true then { s.lane l with mute := m } else s.lane l)
      ∧ ∀ l : Fin 16, muted.getLsbD l.val =
          decide (s.laneHolder l = some p ∧ (table[l]).mute = .muted)))
  ∧ ∀ (p : Port) (n : Byte) (s : State), s.canCommand p (.readLane p n) →
    let u := s.heard p (.readLane p n)
    (15 < n.toNat → exec (.readLane p n) s = answers p 0x57 .range [] u)
    ∧ ∀ l : Fin 16, n.toNat = l.val →
      let d := s.lane l
      ∃ (present : Byte) (cursor : List Byte),
        exec (.readLane p n) s = answers p 0x57 .ok
          ([n] ++ toBytes 1 (portCode (s.laneHolder l)) ++ d.settings.bytes
            ++ [if d.mute = .muted then 0 else 1] ++ [present] ++ cursor
            ++ [if d.output = .active then 0 else 1]
            ++ toBytes 4 ((d.pulseEnd.map fun t => (t - s.houseTime).toNat).getD 0)
            ++ [if d.runFlag then 1 else 0] ++ toBytes 8 ((d.runEnd.map BitVec.toNat).getD 0)
            ++ toBytes 4 d.launchRef.toNat) u
        ∧ (present.getLsbD 0 = d.cursor.isSome) ∧ (present.getLsbD 1 = d.pulseEnd.isSome)
        ∧ (present.getLsbD 2 = d.runEnd.isSome)
        ∧ (∀ k, d.cursor = some (.at k) → cursor = 0 :: toBytes 4 k.toNat)
        ∧ (d.cursor = some .next → cursor = [1, 0, 0, 0, 0])
        ∧ (d.cursor = none → cursor = [0, 0, 0, 0, 0])

/-- Before R + o of the record its cursor names, or with none named in the queue, a lane processes nothing. Then
it takes the record's lane change, sets its run flag at a launch marker in RUN mode, and moves its cursor to
the next record. It emits by its mode: CLOCK a pulse where its index less the phase is a multiple of the
divisor, of its clock width or half its period; GATE a pulse for a level of its plane in its player's entry, of
the level's width or a step less 500 µs; RUN its run level; and nothing where MUTED but a RUN lane's INACTIVE.
A pulse ends no earlier than one in progress. At a record with the last marker CLOCK and GATE emit as at any other,
and a RUN lane sets its run end, or ends its run at once where that has passed (sections 8.3 to 8.5). That a RUN
lane's level overrides a pulse in progress, that an event named before its instant changes nothing, and that a run
end already past becomes absent, are the model's (log entries 20, 22 and 29). -/
def Obligations.LaneProcessesTheRecordItNames : Prop :=
  (∀ (l : Fin 16) (s : State),
     let d := s.lane l
     let at' : PulseRecord → Nat := fun r => (r.refTime + BitVec.ofInt 64 d.settings.offset).toNat
     ((∀ k, d.cursor = some (.at k) → ∀ r ∈ s.queue, r.pulse = k → s.houseTime.toNat < at' r) →
       exec (.laneProcessing l) s = .next s)
     ∧ ∀ (a b : List PulseRecord) (r : PulseRecord), s.queue = a ++ r :: b →
       (∀ x ∈ a, x.pulse ≠ r.pulse) → d.cursor = some (.at r.pulse) → at' r ≤ s.houseTime.toNat →
       ∃ e : Lane, exec (.laneProcessing l) s = .next (s.setLane l e)
         ∧ e.settings = d.settings ∧ e.launchRef = d.launchRef
         ∧ e.cursor = some (match b with
           | x :: _ => .at x.pulse
           | [] => .next)
         ∧ ((∀ c ∈ r.laneChanges, c.lane ≠ l) → e.mute = d.mute)
         ∧ (∀ c, r.laneChanges.filter (fun c => decide (c.lane = l)) = [c] → e.mute = c.value)
         ∧ (r.markers.last = false → e.runEnd = d.runEnd
           ∧ e.runFlag = (d.runFlag || (decide (d.settings.mode = .run) && r.markers.launch)))
         ∧ (d.settings.mode = .clock ∨ d.settings.mode = .gate →
           e.runFlag = d.runFlag ∧ e.runEnd = d.runEnd))
  ∧ (∀ (l : Fin 16) (a b : List PulseRecord) (r : PulseRecord) (s : State), s.queue = a ++ r :: b →
       (∀ x ∈ a, x.pulse ≠ r.pulse) →
       let d := s.lane l
       let g := d.settings
       d.cursor = some (.at r.pulse) →
       (r.refTime + BitVec.ofInt 64 g.offset).toNat ≤ s.houseTime.toNat →
       let t : Nat → Time := fun w => s.houseTime + BitVec.ofNat 64 w
       let pulses : Lane → Nat → Prop := fun e w => e.output = .active
         ∧ ∃ x, e.pulseEnd = some x ∧ (x = t w ∨ d.pulseEnd = some x)
           ∧ (t w).toNat ≤ x.toNat ∧ ∀ y, d.pulseEnd = some y → y.toNat ≤ x.toNat
       let stays : Lane → Prop := fun e => e.output = d.output ∧ e.pulseEnd = d.pulseEnd
       let index : Int := match g.base with
         | .bar => (((r.position.beat - 1) * 96 + r.position.pulse : Nat) : Int)
         | .launch => ((r.pulse - d.launchRef).toNat : Int)
       let len := (s.player g.srcPlayer).stepLength
       let width : Level → Nat := fun v => min
         (if v = 1 then g.soft else if v = 2 then g.normal else g.accent)
         (len * r.interval / 65536 - 500)
       ∃ e : Lane, exec (.laneProcessing l) s = .next (s.setLane l e)
         ∧ (g.mode = .off → stays e)
         ∧ (g.mode = .clock →
           (e.mute = .unmuted → (g.divisor : Int) ∣ index - g.phase →
             pulses e (min g.clockWidth (g.divisor * r.interval / 131072)))
           ∧ (e.mute = .muted ∨ ¬ (g.divisor : Int) ∣ index - g.phase → stays e))
         ∧ (g.mode = .gate →
           (∀ x y c, r.steps = x ++ c :: y → (∀ z ∈ x, z.player ≠ g.srcPlayer) →
             c.player = g.srcPlayer → e.mute = .unmuted → c.levels[g.srcPlane] ≠ 0 →
             pulses e (width c.levels[g.srcPlane]))
           ∧ ((∀ c ∈ r.steps, c.player = g.srcPlayer → c.levels[g.srcPlane] = 0) ∨ e.mute = .muted →
             stays e))
         ∧ (g.mode = .run → e.pulseEnd = d.pulseEnd
           ∧ (d.runFlag = false → r.markers.launch = false →
             e.output = d.output ∧ e.runFlag = false ∧ e.runEnd = d.runEnd)
           ∧ (d.runFlag = true ∨ r.markers.launch = true →
             let level : Output := if e.mute = .unmuted then .active else .inactive
             let runEnd : Time :=
               r.refTime + BitVec.ofInt 64 (g.offset + ((r.interval / 65536 : Nat) : Int))
             (r.markers.last = false → e.output = level ∧ e.runFlag = true ∧ e.runEnd = d.runEnd)
             ∧ (r.markers.last = true → s.houseTime.toNat < runEnd.toNat →
               e.output = level ∧ e.runFlag = true ∧ e.runEnd = some runEnd)
             ∧ (r.markers.last = true → runEnd.toNat ≤ s.houseTime.toNat →
               e.output = .inactive ∧ e.runFlag = false ∧ e.runEnd = none))))

/-- A pulse end that is reached makes the output INACTIVE, but for an UNMUTED RUN lane whose run flag is set;
a run end that is reached clears the run flag and makes it INACTIVE; a RUN lane that meets the last marker
sets its run end to R + o and one pulse, or ends its run at once where that has passed. Before their times
nothing happens (section 8.5). That an event named before its instant changes nothing, and that a run end that is
reached or past becomes absent, are the model's choice (log entries 22 and 29). -/
def Obligations.PulsesAndRunsEnd : Prop :=
  (∀ (l : Fin 16) (s : State),
    let d := s.lane l
    ((∀ t, d.pulseEnd = some t → s.houseTime.toNat < t.toNat) → exec (.pulseEnd l) s = .next s)
    ∧ (∀ t, d.pulseEnd = some t → t.toNat ≤ s.houseTime.toNat → exec (.pulseEnd l) s =
      .next (s.setLane l { d with
        pulseEnd := none
        output := if d.settings.mode = .run ∧ d.runFlag = true ∧ d.mute = .unmuted then .active
          else .inactive }))
    ∧ ((∀ t, d.runEnd = some t → s.houseTime.toNat < t.toNat) → exec (.runEnd l) s = .next s)
    ∧ ∀ t, d.runEnd = some t → t.toNat ≤ s.houseTime.toNat → exec (.runEnd l) s =
      .next (s.setLane l { d with runFlag := false, output := .inactive, runEnd := none }))
  ∧ ∀ (now : Time) (r : PulseRecord) (d : Lane),
    let e : Time := r.refTime + BitVec.ofInt 64 (d.settings.offset + ((r.interval / 65536 : Nat) : Int))
    (d.settings.mode ≠ .run ∨ d.runFlag = false → d.noteLast now r = d)
    ∧ (d.settings.mode = .run → d.runFlag = true →
      (e.toNat ≤ now.toNat →
        d.noteLast now r = { d with runFlag := false, output := .inactive, runEnd := none })
      ∧ (now.toNat < e.toNat → d.noteLast now r = { d with runEnd := some e }))

/-! ### Notices -/

/-- SET_NOTICES sets the port's own kinds and timing, HANDOVER_REQUEST always among them, and an unknown timing
is refused RANGE; READ_NOTICES removes and reports the oldest 8 records and clears the overflowed flag. A
notice of an enabled kind is appended to an open port's queue with the low 32 bits of house time; at a queue
of 16 it is discarded and the overflowed flag set; a closed port and a disabled kind discard it with the flag
as it was. ATTN follows the queue and the attention enable (sections 10.1 to 10.3). -/
def Obligations.NoticesArePostedSetAndRead : Prop :=
  ((∀ (p : Port) (kinds : BitVec 16) (timing : Byte) (s : State),
     s.canCommand p (.setNotices p kinds timing) →
     let u := s.heard p (.setNotices p kinds timing)
     (1 < timing.toNat → exec (.setNotices p kinds timing) s = answers p 0x60 .range [] u)
     ∧ (timing.toNat ≤ 1 → ∃ taken : BitVec 16,
       exec (.setNotices p kinds timing) s =
         answers p 0x60 .ok (toBytes 2 taken.toNat ++ [timing])
           (u.setNoticeQueue p { s.noticeQueue p with
             enabled := taken, timing := if timing = 0 then .arm else .sound })
       ∧ ∀ k, k < 16 → taken.getLsbD k =
         (decide (k = 1) || (decide (2 ≤ k ∧ k ≤ 11) && kinds.getLsbD k))))
   ∧ ∀ (p : Port) (s : State), s.canCommand p (.readNotices p) →
     let u := s.heard p (.readNotices p)
     let q := s.noticeQueue p
     exec (.readNotices p) s = answers p 0x61 .ok
       ([if q.overflowed then 1 else 0] ++ toBytes 1 (q.queue.length - 8)
         ++ toBytes 1 (min 8 q.queue.length) ++ (q.queue.take 8).flatMap Notice.bytes)
       { u.setPort p { u.port p with
           attn := decide (8 < q.queue.length) && (s.port p).attention } with
         notices := (s.setNoticeQueue p { q with
           queue := q.queue.drop 8, overflowed := false }).notices })
  ∧ (∀ (p : Port) (b : NoticeBody) (x : Option Position) (s : State),
       let t := s.postAt p b x
       let q := s.noticeQueue p
       let on : Prop := (s.port p).isOpen = true ∧ (b.code = 1 ∨ q.enabled.getLsbD b.code = true)
       (¬ on → t = s)
       ∧ (on → q.queue.length < 16 → t.noticeQueue p =
         { q with queue := q.queue ++ [⟨b, s.houseTime.setWidth 32, x⟩] })
       ∧ (on → 16 ≤ q.queue.length → t.noticeQueue p = { q with overflowed := true })
       ∧ (on → t.port p = { s.port p with attn := (s.port p).attention })
       ∧ (∀ r, r ≠ p → t.noticeQueue r = s.noticeQueue r ∧ t.port r = s.port r)
       ∧ t = { s with ports := t.ports, notices := t.notices })

/-! ### The command set -/

/-- The frame of every command of a desk port, its code, its declared payload length and its fields at their
widths, most significant byte first, is read back as that command with every field as it was; so is the frame
of an UNKNOWN_COMMAND, which spells none (sections 9.2, 9.6, 9.7). That SET_STEP_LENGTH's length is one byte is
the model's choice (log entry 28). -/
def Obligations.CommandFramesRoundTrip : Prop :=
  ∀ (i : Instr) (p : Port) (code : Byte) (rest : List Byte), i.wellFormed = true →
    i.port? = some p → frameBytes i = code :: rest → decodeFrame p code rest = i

/-! ### What every step keeps -/

/-- Every step keeps the engine in its ranges, the glide short of its target, the generator at a position of
its bar, and every tempo and meter that waits in range (sections 1.3 to 1.7, 4.2, 6.2). -/
def Obligations.StepsKeepTheGridLegal : Prop :=
  ∀ s t : State, s.GridInv → step s = .next t → t.GridInv

/-- Every step keeps the table of transport states and the pulse numbers rising by one along the queue. On a lawful
grid, and short of house time 2^63, every step also keeps the instants along the queue: each record stands from H
before its reference time to 250,001 µs after it, and reference times rise by at least 2018 µs. So the queue holds
at most 248 records, and in STOPPED none (sections 2.1, 3.1, 3.3). -/
def Obligations.StepsKeepTheRunLegal : Prop :=
  (∀ s t : State, s.RunInv → step s = .next t → t.RunInv)
  ∧ (∀ s t : State, s.GridInv → s.RunInv → s.QueueInv → s.houseTime.toNat < 2 ^ 63 →
    step s = .next t → t.QueueInv)
  ∧ ∀ s : State, s.RunInv → s.QueueInv →
    s.queue.length ≤ 248 ∧ (s.transport.state = .stopped → s.queue = [])

/-- Every step keeps the leader none, an open and eligible port, or a STEADY tap; the slot and the timers as
that leader allows; and every tap's state and measures following its ring (sections 4.1, 4.2, 5.1 to 5.6). -/
def Obligations.StepsKeepTheLeadAndTheTapsLegal : Prop :=
  ∀ s t : State, s.LeadInv ∧ s.TapInv → step s = .next t → t.LeadInv ∧ t.TapInv

/-- Every step keeps the pool in ascending order of fire position, none before the generator position, with
distinct ids, and every port within its allocation (sections 6.1, 6.3). -/
def Obligations.StepsKeepThePoolInOrder : Prop :=
  ∀ s t : State, s.PoolInv → step s = .next t → t.PoolInv

/-- Every step keeps the pattern memory and the play registers canonical, all their levels 0-3 at cells that
exist, and the players in their ranges (sections 7.1, 7.4). -/
def Obligations.StepsKeepPatternsAndPlayersLegal : Prop :=
  ∀ s t : State, s.MemoryInv ∧ s.PlayerInv → step s = .next t → t.MemoryInv ∧ t.PlayerInv

/-- Every step keeps each lane's settings in range, its cursor present exactly while it is not OFF, and its
output ACTIVE only for a pulse or a run (sections 8.2, 8.4, 8.5). That a run end is present only while the run
flag is set is the model's choice (log entry 29). -/
def Obligations.StepsKeepTheLanesLegal : Prop :=
  ∀ s t : State, s.LaneInv → step s = .next t → t.LaneInv

/-- Every step keeps READY low exactly while a command is in flight, the profiles in range, lanes and players
held by open ports alone, the notice queues within 16, and ATTN asserted exactly while a port's queue holds a
record and its attention enable is on (sections 8.1, 9.1, 9.2, 10.1, 10.3). -/
def Obligations.StepsKeepPortsClaimsAndNoticesLegal : Prop :=
  ∀ s t : State, s.PortInv ∧ s.ClaimsInv ∧ s.NoticeInv → step s = .next t →
    t.PortInv ∧ t.ClaimsInv ∧ t.NoticeInv

/-- The machine right after reset satisfies everything that every step keeps. -/
def Obligations.EverythingKeptHoldsAtReset : Prop :=
  State.reset.GridInv ∧ (State.reset.RunInv ∧ State.reset.QueueInv) ∧ (State.reset.LeadInv ∧ State.reset.TapInv)
    ∧ State.reset.PoolInv ∧ (State.reset.MemoryInv ∧ State.reset.PlayerInv) ∧ State.reset.LaneInv
    ∧ (State.reset.PortInv ∧ State.reset.ClaimsInv ∧ State.reset.NoticeInv)
end

