-- ==== Sys2Proof/Laws/State.lean ====
section
/-! SUPPORT. The parts of the state after each of its updates: one lemma for each field and each accessor
under each setter, all true by unfolding the record, and what a setter writes read back. -/

namespace Sys2Proof

theorem Port.idx_inj : ∀ {p q : Port}, p.idx = q.idx ↔ p = q := by
  intro p q
  cases p <;> cases q <;> decide

namespace Machine

variable (s : State)


/-! ### `State.setPort` -/

@[simp] theorem State.setPort_rstLow (p : Port) (d : DeskPort) :
    (s.setPort p d).rstLow = s.rstLow := rfl
@[simp] theorem State.setPort_houseTime (p : Port) (d : DeskPort) :
    (s.setPort p d).houseTime = s.houseTime := rfl
@[simp] theorem State.setPort_clearing (p : Port) (d : DeskPort) :
    (s.setPort p d).clearing = s.clearing := rfl
@[simp] theorem State.setPort_engine (p : Port) (d : DeskPort) :
    (s.setPort p d).engine = s.engine := rfl
@[simp] theorem State.setPort_transport (p : Port) (d : DeskPort) :
    (s.setPort p d).transport = s.transport := rfl
@[simp] theorem State.setPort_gen (p : Port) (d : DeskPort) :
    (s.setPort p d).gen = s.gen := rfl
@[simp] theorem State.setPort_queue (p : Port) (d : DeskPort) :
    (s.setPort p d).queue = s.queue := rfl
@[simp] theorem State.setPort_lastBeat (p : Port) (d : DeskPort) :
    (s.setPort p d).lastBeat = s.lastBeat := rfl
@[simp] theorem State.setPort_arbiter (p : Port) (d : DeskPort) :
    (s.setPort p d).arbiter = s.arbiter := rfl
@[simp] theorem State.setPort_taps (p : Port) (d : DeskPort) :
    (s.setPort p d).taps = s.taps := rfl
@[simp] theorem State.setPort_cues (p : Port) (d : DeskPort) :
    (s.setPort p d).cues = s.cues := rfl
@[simp] theorem State.setPort_allocations (p : Port) (d : DeskPort) :
    (s.setPort p d).allocations = s.allocations := rfl
@[simp] theorem State.setPort_patternMem (p : Port) (d : DeskPort) :
    (s.setPort p d).patternMem = s.patternMem := rfl
@[simp] theorem State.setPort_writeSettings (p : Port) (d : DeskPort) :
    (s.setPort p d).writeSettings = s.writeSettings := rfl
@[simp] theorem State.setPort_players (p : Port) (d : DeskPort) :
    (s.setPort p d).players = s.players := rfl
@[simp] theorem State.setPort_laneClaims (p : Port) (d : DeskPort) :
    (s.setPort p d).laneClaims = s.laneClaims := rfl
@[simp] theorem State.setPort_playerClaims (p : Port) (d : DeskPort) :
    (s.setPort p d).playerClaims = s.playerClaims := rfl
@[simp] theorem State.setPort_lanes (p : Port) (d : DeskPort) :
    (s.setPort p d).lanes = s.lanes := rfl
@[simp] theorem State.setPort_notices (p : Port) (d : DeskPort) :
    (s.setPort p d).notices = s.notices := rfl
@[simp] theorem State.setPort_acceptedFrames (p : Port) (d : DeskPort) :
    (s.setPort p d).acceptedFrames = s.acceptedFrames := rfl
@[simp] theorem State.setPort_choices (p : Port) (d : DeskPort) :
    (s.setPort p d).choices = s.choices := rfl
@[simp] theorem State.setPort_pending (p : Port) (d : DeskPort) :
    (s.setPort p d).pending = s.pending := rfl
@[simp] theorem State.setPort_noticeQueue (p : Port) (d : DeskPort) (q : Port) :
    (s.setPort p d).noticeQueue q = s.noticeQueue q := rfl
@[simp] theorem State.setPort_writeSetting (p : Port) (d : DeskPort) (q : Port) :
    (s.setPort p d).writeSetting q = s.writeSetting q := rfl
@[simp] theorem State.setPort_allocation (p : Port) (d : DeskPort) (q : Port) :
    (s.setPort p d).allocation q = s.allocation q := rfl
@[simp] theorem State.setPort_tap (p : Port) (d : DeskPort) (q : Fin 4) :
    (s.setPort p d).tap q = s.tap q := rfl
@[simp] theorem State.setPort_player (p : Port) (d : DeskPort) (q : Fin 4) :
    (s.setPort p d).player q = s.player q := rfl
@[simp] theorem State.setPort_lane (p : Port) (d : DeskPort) (q : Fin 16) :
    (s.setPort p d).lane q = s.lane q := rfl
@[simp] theorem State.setPort_laneHolder (p : Port) (d : DeskPort) (q : Fin 16) :
    (s.setPort p d).laneHolder q = s.laneHolder q := rfl
@[simp] theorem State.setPort_playerHolder (p : Port) (d : DeskPort) (q : Fin 4) :
    (s.setPort p d).playerHolder q = s.playerHolder q := rfl
@[simp] theorem State.setPort_cueCount (p : Port) (d : DeskPort) (q : Port) :
    (s.setPort p d).cueCount q = s.cueCount q := rfl
@[simp] theorem State.setPort_leads (p : Port) (d : DeskPort) (q : Port) :
    (s.setPort p d).leads q = s.leads q := rfl
@[simp] theorem State.setPort_bids (p : Port) (d : DeskPort) (q : Port) :
    (s.setPort p d).bids q = s.bids q := rfl
theorem State.setPort_port (p : Port) (d : DeskPort) (q : Port) :
    (s.setPort p d).port q = if p = q then d else s.port q := by
  simp only [State.port, State.setPort, Fin.getElem_fin, Vector.getElem_set, Fin.val_inj, Port.idx_inj]
@[simp] theorem State.setPort_port_self (p : Port) (d : DeskPort) : (s.setPort p d).port p = d := by
  simp [State.setPort_port]
theorem State.setPort_port_other (p : Port) (d : DeskPort) (q : Port) (h : q ≠ p) :
    (s.setPort p d).port q = s.port q := by
  simp [State.setPort_port, Ne.symm h]

/-! ### `State.setNoticeQueue` -/

@[simp] theorem State.setNoticeQueue_rstLow (p : Port) (d : NoticeQueue) :
    (s.setNoticeQueue p d).rstLow = s.rstLow := rfl
@[simp] theorem State.setNoticeQueue_houseTime (p : Port) (d : NoticeQueue) :
    (s.setNoticeQueue p d).houseTime = s.houseTime := rfl
@[simp] theorem State.setNoticeQueue_clearing (p : Port) (d : NoticeQueue) :
    (s.setNoticeQueue p d).clearing = s.clearing := rfl
@[simp] theorem State.setNoticeQueue_engine (p : Port) (d : NoticeQueue) :
    (s.setNoticeQueue p d).engine = s.engine := rfl
@[simp] theorem State.setNoticeQueue_transport (p : Port) (d : NoticeQueue) :
    (s.setNoticeQueue p d).transport = s.transport := rfl
@[simp] theorem State.setNoticeQueue_gen (p : Port) (d : NoticeQueue) :
    (s.setNoticeQueue p d).gen = s.gen := rfl
@[simp] theorem State.setNoticeQueue_queue (p : Port) (d : NoticeQueue) :
    (s.setNoticeQueue p d).queue = s.queue := rfl
@[simp] theorem State.setNoticeQueue_lastBeat (p : Port) (d : NoticeQueue) :
    (s.setNoticeQueue p d).lastBeat = s.lastBeat := rfl
@[simp] theorem State.setNoticeQueue_arbiter (p : Port) (d : NoticeQueue) :
    (s.setNoticeQueue p d).arbiter = s.arbiter := rfl
@[simp] theorem State.setNoticeQueue_taps (p : Port) (d : NoticeQueue) :
    (s.setNoticeQueue p d).taps = s.taps := rfl
@[simp] theorem State.setNoticeQueue_cues (p : Port) (d : NoticeQueue) :
    (s.setNoticeQueue p d).cues = s.cues := rfl
@[simp] theorem State.setNoticeQueue_allocations (p : Port) (d : NoticeQueue) :
    (s.setNoticeQueue p d).allocations = s.allocations := rfl
@[simp] theorem State.setNoticeQueue_patternMem (p : Port) (d : NoticeQueue) :
    (s.setNoticeQueue p d).patternMem = s.patternMem := rfl
@[simp] theorem State.setNoticeQueue_writeSettings (p : Port) (d : NoticeQueue) :
    (s.setNoticeQueue p d).writeSettings = s.writeSettings := rfl
@[simp] theorem State.setNoticeQueue_players (p : Port) (d : NoticeQueue) :
    (s.setNoticeQueue p d).players = s.players := rfl
@[simp] theorem State.setNoticeQueue_laneClaims (p : Port) (d : NoticeQueue) :
    (s.setNoticeQueue p d).laneClaims = s.laneClaims := rfl
@[simp] theorem State.setNoticeQueue_playerClaims (p : Port) (d : NoticeQueue) :
    (s.setNoticeQueue p d).playerClaims = s.playerClaims := rfl
@[simp] theorem State.setNoticeQueue_lanes (p : Port) (d : NoticeQueue) :
    (s.setNoticeQueue p d).lanes = s.lanes := rfl
@[simp] theorem State.setNoticeQueue_ports (p : Port) (d : NoticeQueue) :
    (s.setNoticeQueue p d).ports = s.ports := rfl
@[simp] theorem State.setNoticeQueue_acceptedFrames (p : Port) (d : NoticeQueue) :
    (s.setNoticeQueue p d).acceptedFrames = s.acceptedFrames := rfl
@[simp] theorem State.setNoticeQueue_choices (p : Port) (d : NoticeQueue) :
    (s.setNoticeQueue p d).choices = s.choices := rfl
@[simp] theorem State.setNoticeQueue_pending (p : Port) (d : NoticeQueue) :
    (s.setNoticeQueue p d).pending = s.pending := rfl
@[simp] theorem State.setNoticeQueue_port (p : Port) (d : NoticeQueue) (q : Port) :
    (s.setNoticeQueue p d).port q = s.port q := rfl
@[simp] theorem State.setNoticeQueue_writeSetting (p : Port) (d : NoticeQueue) (q : Port) :
    (s.setNoticeQueue p d).writeSetting q = s.writeSetting q := rfl
@[simp] theorem State.setNoticeQueue_allocation (p : Port) (d : NoticeQueue) (q : Port) :
    (s.setNoticeQueue p d).allocation q = s.allocation q := rfl
@[simp] theorem State.setNoticeQueue_tap (p : Port) (d : NoticeQueue) (q : Fin 4) :
    (s.setNoticeQueue p d).tap q = s.tap q := rfl
@[simp] theorem State.setNoticeQueue_player (p : Port) (d : NoticeQueue) (q : Fin 4) :
    (s.setNoticeQueue p d).player q = s.player q := rfl
@[simp] theorem State.setNoticeQueue_lane (p : Port) (d : NoticeQueue) (q : Fin 16) :
    (s.setNoticeQueue p d).lane q = s.lane q := rfl
@[simp] theorem State.setNoticeQueue_laneHolder (p : Port) (d : NoticeQueue) (q : Fin 16) :
    (s.setNoticeQueue p d).laneHolder q = s.laneHolder q := rfl
@[simp] theorem State.setNoticeQueue_playerHolder (p : Port) (d : NoticeQueue) (q : Fin 4) :
    (s.setNoticeQueue p d).playerHolder q = s.playerHolder q := rfl
@[simp] theorem State.setNoticeQueue_cueCount (p : Port) (d : NoticeQueue) (q : Port) :
    (s.setNoticeQueue p d).cueCount q = s.cueCount q := rfl
@[simp] theorem State.setNoticeQueue_leads (p : Port) (d : NoticeQueue) (q : Port) :
    (s.setNoticeQueue p d).leads q = s.leads q := rfl
@[simp] theorem State.setNoticeQueue_bids (p : Port) (d : NoticeQueue) (q : Port) :
    (s.setNoticeQueue p d).bids q = s.bids q := rfl
theorem State.setNoticeQueue_noticeQueue (p : Port) (d : NoticeQueue) (q : Port) :
    (s.setNoticeQueue p d).noticeQueue q = if p = q then d else s.noticeQueue q := by
  simp only [State.noticeQueue, State.setNoticeQueue, Fin.getElem_fin, Vector.getElem_set, Fin.val_inj, Port.idx_inj]
@[simp] theorem State.setNoticeQueue_noticeQueue_self (p : Port) (d : NoticeQueue) : (s.setNoticeQueue p d).noticeQueue p = d := by
  simp [State.setNoticeQueue_noticeQueue]
theorem State.setNoticeQueue_noticeQueue_other (p : Port) (d : NoticeQueue) (q : Port) (h : q ≠ p) :
    (s.setNoticeQueue p d).noticeQueue q = s.noticeQueue q := by
  simp [State.setNoticeQueue_noticeQueue, Ne.symm h]

/-! ### `State.setWriteSetting` -/

@[simp] theorem State.setWriteSetting_rstLow (p : Port) (d : WriteSettings) :
    (s.setWriteSetting p d).rstLow = s.rstLow := rfl
@[simp] theorem State.setWriteSetting_houseTime (p : Port) (d : WriteSettings) :
    (s.setWriteSetting p d).houseTime = s.houseTime := rfl
@[simp] theorem State.setWriteSetting_clearing (p : Port) (d : WriteSettings) :
    (s.setWriteSetting p d).clearing = s.clearing := rfl
@[simp] theorem State.setWriteSetting_engine (p : Port) (d : WriteSettings) :
    (s.setWriteSetting p d).engine = s.engine := rfl
@[simp] theorem State.setWriteSetting_transport (p : Port) (d : WriteSettings) :
    (s.setWriteSetting p d).transport = s.transport := rfl
@[simp] theorem State.setWriteSetting_gen (p : Port) (d : WriteSettings) :
    (s.setWriteSetting p d).gen = s.gen := rfl
@[simp] theorem State.setWriteSetting_queue (p : Port) (d : WriteSettings) :
    (s.setWriteSetting p d).queue = s.queue := rfl
@[simp] theorem State.setWriteSetting_lastBeat (p : Port) (d : WriteSettings) :
    (s.setWriteSetting p d).lastBeat = s.lastBeat := rfl
@[simp] theorem State.setWriteSetting_arbiter (p : Port) (d : WriteSettings) :
    (s.setWriteSetting p d).arbiter = s.arbiter := rfl
@[simp] theorem State.setWriteSetting_taps (p : Port) (d : WriteSettings) :
    (s.setWriteSetting p d).taps = s.taps := rfl
@[simp] theorem State.setWriteSetting_cues (p : Port) (d : WriteSettings) :
    (s.setWriteSetting p d).cues = s.cues := rfl
@[simp] theorem State.setWriteSetting_allocations (p : Port) (d : WriteSettings) :
    (s.setWriteSetting p d).allocations = s.allocations := rfl
@[simp] theorem State.setWriteSetting_patternMem (p : Port) (d : WriteSettings) :
    (s.setWriteSetting p d).patternMem = s.patternMem := rfl
@[simp] theorem State.setWriteSetting_players (p : Port) (d : WriteSettings) :
    (s.setWriteSetting p d).players = s.players := rfl
@[simp] theorem State.setWriteSetting_laneClaims (p : Port) (d : WriteSettings) :
    (s.setWriteSetting p d).laneClaims = s.laneClaims := rfl
@[simp] theorem State.setWriteSetting_playerClaims (p : Port) (d : WriteSettings) :
    (s.setWriteSetting p d).playerClaims = s.playerClaims := rfl
@[simp] theorem State.setWriteSetting_lanes (p : Port) (d : WriteSettings) :
    (s.setWriteSetting p d).lanes = s.lanes := rfl
@[simp] theorem State.setWriteSetting_ports (p : Port) (d : WriteSettings) :
    (s.setWriteSetting p d).ports = s.ports := rfl
@[simp] theorem State.setWriteSetting_notices (p : Port) (d : WriteSettings) :
    (s.setWriteSetting p d).notices = s.notices := rfl
@[simp] theorem State.setWriteSetting_acceptedFrames (p : Port) (d : WriteSettings) :
    (s.setWriteSetting p d).acceptedFrames = s.acceptedFrames := rfl
@[simp] theorem State.setWriteSetting_choices (p : Port) (d : WriteSettings) :
    (s.setWriteSetting p d).choices = s.choices := rfl
@[simp] theorem State.setWriteSetting_pending (p : Port) (d : WriteSettings) :
    (s.setWriteSetting p d).pending = s.pending := rfl
@[simp] theorem State.setWriteSetting_port (p : Port) (d : WriteSettings) (q : Port) :
    (s.setWriteSetting p d).port q = s.port q := rfl
@[simp] theorem State.setWriteSetting_noticeQueue (p : Port) (d : WriteSettings) (q : Port) :
    (s.setWriteSetting p d).noticeQueue q = s.noticeQueue q := rfl
@[simp] theorem State.setWriteSetting_allocation (p : Port) (d : WriteSettings) (q : Port) :
    (s.setWriteSetting p d).allocation q = s.allocation q := rfl
@[simp] theorem State.setWriteSetting_tap (p : Port) (d : WriteSettings) (q : Fin 4) :
    (s.setWriteSetting p d).tap q = s.tap q := rfl
@[simp] theorem State.setWriteSetting_player (p : Port) (d : WriteSettings) (q : Fin 4) :
    (s.setWriteSetting p d).player q = s.player q := rfl
@[simp] theorem State.setWriteSetting_lane (p : Port) (d : WriteSettings) (q : Fin 16) :
    (s.setWriteSetting p d).lane q = s.lane q := rfl
@[simp] theorem State.setWriteSetting_laneHolder (p : Port) (d : WriteSettings) (q : Fin 16) :
    (s.setWriteSetting p d).laneHolder q = s.laneHolder q := rfl
@[simp] theorem State.setWriteSetting_playerHolder (p : Port) (d : WriteSettings) (q : Fin 4) :
    (s.setWriteSetting p d).playerHolder q = s.playerHolder q := rfl
@[simp] theorem State.setWriteSetting_cueCount (p : Port) (d : WriteSettings) (q : Port) :
    (s.setWriteSetting p d).cueCount q = s.cueCount q := rfl
@[simp] theorem State.setWriteSetting_leads (p : Port) (d : WriteSettings) (q : Port) :
    (s.setWriteSetting p d).leads q = s.leads q := rfl
@[simp] theorem State.setWriteSetting_bids (p : Port) (d : WriteSettings) (q : Port) :
    (s.setWriteSetting p d).bids q = s.bids q := rfl
theorem State.setWriteSetting_writeSetting (p : Port) (d : WriteSettings) (q : Port) :
    (s.setWriteSetting p d).writeSetting q = if p = q then d else s.writeSetting q := by
  simp only [State.writeSetting, State.setWriteSetting, Fin.getElem_fin, Vector.getElem_set, Fin.val_inj, Port.idx_inj]
@[simp] theorem State.setWriteSetting_writeSetting_self (p : Port) (d : WriteSettings) : (s.setWriteSetting p d).writeSetting p = d := by
  simp [State.setWriteSetting_writeSetting]
theorem State.setWriteSetting_writeSetting_other (p : Port) (d : WriteSettings) (q : Port) (h : q ≠ p) :
    (s.setWriteSetting p d).writeSetting q = s.writeSetting q := by
  simp [State.setWriteSetting_writeSetting, Ne.symm h]

/-! ### `State.setAllocation` -/

@[simp] theorem State.setAllocation_rstLow (p : Port) (d : Nat) :
    (s.setAllocation p d).rstLow = s.rstLow := rfl
@[simp] theorem State.setAllocation_houseTime (p : Port) (d : Nat) :
    (s.setAllocation p d).houseTime = s.houseTime := rfl
@[simp] theorem State.setAllocation_clearing (p : Port) (d : Nat) :
    (s.setAllocation p d).clearing = s.clearing := rfl
@[simp] theorem State.setAllocation_engine (p : Port) (d : Nat) :
    (s.setAllocation p d).engine = s.engine := rfl
@[simp] theorem State.setAllocation_transport (p : Port) (d : Nat) :
    (s.setAllocation p d).transport = s.transport := rfl
@[simp] theorem State.setAllocation_gen (p : Port) (d : Nat) :
    (s.setAllocation p d).gen = s.gen := rfl
@[simp] theorem State.setAllocation_queue (p : Port) (d : Nat) :
    (s.setAllocation p d).queue = s.queue := rfl
@[simp] theorem State.setAllocation_lastBeat (p : Port) (d : Nat) :
    (s.setAllocation p d).lastBeat = s.lastBeat := rfl
@[simp] theorem State.setAllocation_arbiter (p : Port) (d : Nat) :
    (s.setAllocation p d).arbiter = s.arbiter := rfl
@[simp] theorem State.setAllocation_taps (p : Port) (d : Nat) :
    (s.setAllocation p d).taps = s.taps := rfl
@[simp] theorem State.setAllocation_cues (p : Port) (d : Nat) :
    (s.setAllocation p d).cues = s.cues := rfl
@[simp] theorem State.setAllocation_patternMem (p : Port) (d : Nat) :
    (s.setAllocation p d).patternMem = s.patternMem := rfl
@[simp] theorem State.setAllocation_writeSettings (p : Port) (d : Nat) :
    (s.setAllocation p d).writeSettings = s.writeSettings := rfl
@[simp] theorem State.setAllocation_players (p : Port) (d : Nat) :
    (s.setAllocation p d).players = s.players := rfl
@[simp] theorem State.setAllocation_laneClaims (p : Port) (d : Nat) :
    (s.setAllocation p d).laneClaims = s.laneClaims := rfl
@[simp] theorem State.setAllocation_playerClaims (p : Port) (d : Nat) :
    (s.setAllocation p d).playerClaims = s.playerClaims := rfl
@[simp] theorem State.setAllocation_lanes (p : Port) (d : Nat) :
    (s.setAllocation p d).lanes = s.lanes := rfl
@[simp] theorem State.setAllocation_ports (p : Port) (d : Nat) :
    (s.setAllocation p d).ports = s.ports := rfl
@[simp] theorem State.setAllocation_notices (p : Port) (d : Nat) :
    (s.setAllocation p d).notices = s.notices := rfl
@[simp] theorem State.setAllocation_acceptedFrames (p : Port) (d : Nat) :
    (s.setAllocation p d).acceptedFrames = s.acceptedFrames := rfl
@[simp] theorem State.setAllocation_choices (p : Port) (d : Nat) :
    (s.setAllocation p d).choices = s.choices := rfl
@[simp] theorem State.setAllocation_pending (p : Port) (d : Nat) :
    (s.setAllocation p d).pending = s.pending := rfl
@[simp] theorem State.setAllocation_port (p : Port) (d : Nat) (q : Port) :
    (s.setAllocation p d).port q = s.port q := rfl
@[simp] theorem State.setAllocation_noticeQueue (p : Port) (d : Nat) (q : Port) :
    (s.setAllocation p d).noticeQueue q = s.noticeQueue q := rfl
@[simp] theorem State.setAllocation_writeSetting (p : Port) (d : Nat) (q : Port) :
    (s.setAllocation p d).writeSetting q = s.writeSetting q := rfl
@[simp] theorem State.setAllocation_tap (p : Port) (d : Nat) (q : Fin 4) :
    (s.setAllocation p d).tap q = s.tap q := rfl
@[simp] theorem State.setAllocation_player (p : Port) (d : Nat) (q : Fin 4) :
    (s.setAllocation p d).player q = s.player q := rfl
@[simp] theorem State.setAllocation_lane (p : Port) (d : Nat) (q : Fin 16) :
    (s.setAllocation p d).lane q = s.lane q := rfl
@[simp] theorem State.setAllocation_laneHolder (p : Port) (d : Nat) (q : Fin 16) :
    (s.setAllocation p d).laneHolder q = s.laneHolder q := rfl
@[simp] theorem State.setAllocation_playerHolder (p : Port) (d : Nat) (q : Fin 4) :
    (s.setAllocation p d).playerHolder q = s.playerHolder q := rfl
@[simp] theorem State.setAllocation_cueCount (p : Port) (d : Nat) (q : Port) :
    (s.setAllocation p d).cueCount q = s.cueCount q := rfl
@[simp] theorem State.setAllocation_leads (p : Port) (d : Nat) (q : Port) :
    (s.setAllocation p d).leads q = s.leads q := rfl
@[simp] theorem State.setAllocation_bids (p : Port) (d : Nat) (q : Port) :
    (s.setAllocation p d).bids q = s.bids q := rfl
theorem State.setAllocation_allocation (p : Port) (d : Nat) (q : Port) :
    (s.setAllocation p d).allocation q = if p = q then d else s.allocation q := by
  simp only [State.allocation, State.setAllocation, Fin.getElem_fin, Vector.getElem_set, Fin.val_inj, Port.idx_inj]
@[simp] theorem State.setAllocation_allocation_self (p : Port) (d : Nat) : (s.setAllocation p d).allocation p = d := by
  simp [State.setAllocation_allocation]
theorem State.setAllocation_allocation_other (p : Port) (d : Nat) (q : Port) (h : q ≠ p) :
    (s.setAllocation p d).allocation q = s.allocation q := by
  simp [State.setAllocation_allocation, Ne.symm h]

/-! ### `State.setTap` -/

@[simp] theorem State.setTap_rstLow (p : Fin 4) (d : Tap) :
    (s.setTap p d).rstLow = s.rstLow := rfl
@[simp] theorem State.setTap_houseTime (p : Fin 4) (d : Tap) :
    (s.setTap p d).houseTime = s.houseTime := rfl
@[simp] theorem State.setTap_clearing (p : Fin 4) (d : Tap) :
    (s.setTap p d).clearing = s.clearing := rfl
@[simp] theorem State.setTap_engine (p : Fin 4) (d : Tap) :
    (s.setTap p d).engine = s.engine := rfl
@[simp] theorem State.setTap_transport (p : Fin 4) (d : Tap) :
    (s.setTap p d).transport = s.transport := rfl
@[simp] theorem State.setTap_gen (p : Fin 4) (d : Tap) :
    (s.setTap p d).gen = s.gen := rfl
@[simp] theorem State.setTap_queue (p : Fin 4) (d : Tap) :
    (s.setTap p d).queue = s.queue := rfl
@[simp] theorem State.setTap_lastBeat (p : Fin 4) (d : Tap) :
    (s.setTap p d).lastBeat = s.lastBeat := rfl
@[simp] theorem State.setTap_arbiter (p : Fin 4) (d : Tap) :
    (s.setTap p d).arbiter = s.arbiter := rfl
@[simp] theorem State.setTap_cues (p : Fin 4) (d : Tap) :
    (s.setTap p d).cues = s.cues := rfl
@[simp] theorem State.setTap_allocations (p : Fin 4) (d : Tap) :
    (s.setTap p d).allocations = s.allocations := rfl
@[simp] theorem State.setTap_patternMem (p : Fin 4) (d : Tap) :
    (s.setTap p d).patternMem = s.patternMem := rfl
@[simp] theorem State.setTap_writeSettings (p : Fin 4) (d : Tap) :
    (s.setTap p d).writeSettings = s.writeSettings := rfl
@[simp] theorem State.setTap_players (p : Fin 4) (d : Tap) :
    (s.setTap p d).players = s.players := rfl
@[simp] theorem State.setTap_laneClaims (p : Fin 4) (d : Tap) :
    (s.setTap p d).laneClaims = s.laneClaims := rfl
@[simp] theorem State.setTap_playerClaims (p : Fin 4) (d : Tap) :
    (s.setTap p d).playerClaims = s.playerClaims := rfl
@[simp] theorem State.setTap_lanes (p : Fin 4) (d : Tap) :
    (s.setTap p d).lanes = s.lanes := rfl
@[simp] theorem State.setTap_ports (p : Fin 4) (d : Tap) :
    (s.setTap p d).ports = s.ports := rfl
@[simp] theorem State.setTap_notices (p : Fin 4) (d : Tap) :
    (s.setTap p d).notices = s.notices := rfl
@[simp] theorem State.setTap_acceptedFrames (p : Fin 4) (d : Tap) :
    (s.setTap p d).acceptedFrames = s.acceptedFrames := rfl
@[simp] theorem State.setTap_choices (p : Fin 4) (d : Tap) :
    (s.setTap p d).choices = s.choices := rfl
@[simp] theorem State.setTap_pending (p : Fin 4) (d : Tap) :
    (s.setTap p d).pending = s.pending := rfl
@[simp] theorem State.setTap_port (p : Fin 4) (d : Tap) (q : Port) :
    (s.setTap p d).port q = s.port q := rfl
@[simp] theorem State.setTap_noticeQueue (p : Fin 4) (d : Tap) (q : Port) :
    (s.setTap p d).noticeQueue q = s.noticeQueue q := rfl
@[simp] theorem State.setTap_writeSetting (p : Fin 4) (d : Tap) (q : Port) :
    (s.setTap p d).writeSetting q = s.writeSetting q := rfl
@[simp] theorem State.setTap_allocation (p : Fin 4) (d : Tap) (q : Port) :
    (s.setTap p d).allocation q = s.allocation q := rfl
@[simp] theorem State.setTap_player (p : Fin 4) (d : Tap) (q : Fin 4) :
    (s.setTap p d).player q = s.player q := rfl
@[simp] theorem State.setTap_lane (p : Fin 4) (d : Tap) (q : Fin 16) :
    (s.setTap p d).lane q = s.lane q := rfl
@[simp] theorem State.setTap_laneHolder (p : Fin 4) (d : Tap) (q : Fin 16) :
    (s.setTap p d).laneHolder q = s.laneHolder q := rfl
@[simp] theorem State.setTap_playerHolder (p : Fin 4) (d : Tap) (q : Fin 4) :
    (s.setTap p d).playerHolder q = s.playerHolder q := rfl
@[simp] theorem State.setTap_cueCount (p : Fin 4) (d : Tap) (q : Port) :
    (s.setTap p d).cueCount q = s.cueCount q := rfl
@[simp] theorem State.setTap_leads (p : Fin 4) (d : Tap) (q : Port) :
    (s.setTap p d).leads q = s.leads q := rfl
@[simp] theorem State.setTap_bids (p : Fin 4) (d : Tap) (q : Port) :
    (s.setTap p d).bids q = s.bids q := rfl
theorem State.setTap_tap (p : Fin 4) (d : Tap) (q : Fin 4) :
    (s.setTap p d).tap q = if p = q then d else s.tap q := by
  simp only [State.tap, State.setTap, Fin.getElem_fin, Vector.getElem_set, Fin.val_inj]
@[simp] theorem State.setTap_tap_self (p : Fin 4) (d : Tap) : (s.setTap p d).tap p = d := by
  simp [State.setTap_tap]
theorem State.setTap_tap_other (p : Fin 4) (d : Tap) (q : Fin 4) (h : q ≠ p) :
    (s.setTap p d).tap q = s.tap q := by
  simp [State.setTap_tap, Ne.symm h]

/-! ### `State.setPlayer` -/

@[simp] theorem State.setPlayer_rstLow (p : Fin 4) (d : Player) :
    (s.setPlayer p d).rstLow = s.rstLow := rfl
@[simp] theorem State.setPlayer_houseTime (p : Fin 4) (d : Player) :
    (s.setPlayer p d).houseTime = s.houseTime := rfl
@[simp] theorem State.setPlayer_clearing (p : Fin 4) (d : Player) :
    (s.setPlayer p d).clearing = s.clearing := rfl
@[simp] theorem State.setPlayer_engine (p : Fin 4) (d : Player) :
    (s.setPlayer p d).engine = s.engine := rfl
@[simp] theorem State.setPlayer_transport (p : Fin 4) (d : Player) :
    (s.setPlayer p d).transport = s.transport := rfl
@[simp] theorem State.setPlayer_gen (p : Fin 4) (d : Player) :
    (s.setPlayer p d).gen = s.gen := rfl
@[simp] theorem State.setPlayer_queue (p : Fin 4) (d : Player) :
    (s.setPlayer p d).queue = s.queue := rfl
@[simp] theorem State.setPlayer_lastBeat (p : Fin 4) (d : Player) :
    (s.setPlayer p d).lastBeat = s.lastBeat := rfl
@[simp] theorem State.setPlayer_arbiter (p : Fin 4) (d : Player) :
    (s.setPlayer p d).arbiter = s.arbiter := rfl
@[simp] theorem State.setPlayer_taps (p : Fin 4) (d : Player) :
    (s.setPlayer p d).taps = s.taps := rfl
@[simp] theorem State.setPlayer_cues (p : Fin 4) (d : Player) :
    (s.setPlayer p d).cues = s.cues := rfl
@[simp] theorem State.setPlayer_allocations (p : Fin 4) (d : Player) :
    (s.setPlayer p d).allocations = s.allocations := rfl
@[simp] theorem State.setPlayer_patternMem (p : Fin 4) (d : Player) :
    (s.setPlayer p d).patternMem = s.patternMem := rfl
@[simp] theorem State.setPlayer_writeSettings (p : Fin 4) (d : Player) :
    (s.setPlayer p d).writeSettings = s.writeSettings := rfl
@[simp] theorem State.setPlayer_laneClaims (p : Fin 4) (d : Player) :
    (s.setPlayer p d).laneClaims = s.laneClaims := rfl
@[simp] theorem State.setPlayer_playerClaims (p : Fin 4) (d : Player) :
    (s.setPlayer p d).playerClaims = s.playerClaims := rfl
@[simp] theorem State.setPlayer_lanes (p : Fin 4) (d : Player) :
    (s.setPlayer p d).lanes = s.lanes := rfl
@[simp] theorem State.setPlayer_ports (p : Fin 4) (d : Player) :
    (s.setPlayer p d).ports = s.ports := rfl
@[simp] theorem State.setPlayer_notices (p : Fin 4) (d : Player) :
    (s.setPlayer p d).notices = s.notices := rfl
@[simp] theorem State.setPlayer_acceptedFrames (p : Fin 4) (d : Player) :
    (s.setPlayer p d).acceptedFrames = s.acceptedFrames := rfl
@[simp] theorem State.setPlayer_choices (p : Fin 4) (d : Player) :
    (s.setPlayer p d).choices = s.choices := rfl
@[simp] theorem State.setPlayer_pending (p : Fin 4) (d : Player) :
    (s.setPlayer p d).pending = s.pending := rfl
@[simp] theorem State.setPlayer_port (p : Fin 4) (d : Player) (q : Port) :
    (s.setPlayer p d).port q = s.port q := rfl
@[simp] theorem State.setPlayer_noticeQueue (p : Fin 4) (d : Player) (q : Port) :
    (s.setPlayer p d).noticeQueue q = s.noticeQueue q := rfl
@[simp] theorem State.setPlayer_writeSetting (p : Fin 4) (d : Player) (q : Port) :
    (s.setPlayer p d).writeSetting q = s.writeSetting q := rfl
@[simp] theorem State.setPlayer_allocation (p : Fin 4) (d : Player) (q : Port) :
    (s.setPlayer p d).allocation q = s.allocation q := rfl
@[simp] theorem State.setPlayer_tap (p : Fin 4) (d : Player) (q : Fin 4) :
    (s.setPlayer p d).tap q = s.tap q := rfl
@[simp] theorem State.setPlayer_lane (p : Fin 4) (d : Player) (q : Fin 16) :
    (s.setPlayer p d).lane q = s.lane q := rfl
@[simp] theorem State.setPlayer_laneHolder (p : Fin 4) (d : Player) (q : Fin 16) :
    (s.setPlayer p d).laneHolder q = s.laneHolder q := rfl
@[simp] theorem State.setPlayer_playerHolder (p : Fin 4) (d : Player) (q : Fin 4) :
    (s.setPlayer p d).playerHolder q = s.playerHolder q := rfl
@[simp] theorem State.setPlayer_cueCount (p : Fin 4) (d : Player) (q : Port) :
    (s.setPlayer p d).cueCount q = s.cueCount q := rfl
@[simp] theorem State.setPlayer_leads (p : Fin 4) (d : Player) (q : Port) :
    (s.setPlayer p d).leads q = s.leads q := rfl
@[simp] theorem State.setPlayer_bids (p : Fin 4) (d : Player) (q : Port) :
    (s.setPlayer p d).bids q = s.bids q := rfl
theorem State.setPlayer_player (p : Fin 4) (d : Player) (q : Fin 4) :
    (s.setPlayer p d).player q = if p = q then d else s.player q := by
  simp only [State.player, State.setPlayer, Fin.getElem_fin, Vector.getElem_set, Fin.val_inj]
@[simp] theorem State.setPlayer_player_self (p : Fin 4) (d : Player) : (s.setPlayer p d).player p = d := by
  simp [State.setPlayer_player]
theorem State.setPlayer_player_other (p : Fin 4) (d : Player) (q : Fin 4) (h : q ≠ p) :
    (s.setPlayer p d).player q = s.player q := by
  simp [State.setPlayer_player, Ne.symm h]

/-! ### `State.setLane` -/

@[simp] theorem State.setLane_rstLow (p : Fin 16) (d : Lane) :
    (s.setLane p d).rstLow = s.rstLow := rfl
@[simp] theorem State.setLane_houseTime (p : Fin 16) (d : Lane) :
    (s.setLane p d).houseTime = s.houseTime := rfl
@[simp] theorem State.setLane_clearing (p : Fin 16) (d : Lane) :
    (s.setLane p d).clearing = s.clearing := rfl
@[simp] theorem State.setLane_engine (p : Fin 16) (d : Lane) :
    (s.setLane p d).engine = s.engine := rfl
@[simp] theorem State.setLane_transport (p : Fin 16) (d : Lane) :
    (s.setLane p d).transport = s.transport := rfl
@[simp] theorem State.setLane_gen (p : Fin 16) (d : Lane) :
    (s.setLane p d).gen = s.gen := rfl
@[simp] theorem State.setLane_queue (p : Fin 16) (d : Lane) :
    (s.setLane p d).queue = s.queue := rfl
@[simp] theorem State.setLane_lastBeat (p : Fin 16) (d : Lane) :
    (s.setLane p d).lastBeat = s.lastBeat := rfl
@[simp] theorem State.setLane_arbiter (p : Fin 16) (d : Lane) :
    (s.setLane p d).arbiter = s.arbiter := rfl
@[simp] theorem State.setLane_taps (p : Fin 16) (d : Lane) :
    (s.setLane p d).taps = s.taps := rfl
@[simp] theorem State.setLane_cues (p : Fin 16) (d : Lane) :
    (s.setLane p d).cues = s.cues := rfl
@[simp] theorem State.setLane_allocations (p : Fin 16) (d : Lane) :
    (s.setLane p d).allocations = s.allocations := rfl
@[simp] theorem State.setLane_patternMem (p : Fin 16) (d : Lane) :
    (s.setLane p d).patternMem = s.patternMem := rfl
@[simp] theorem State.setLane_writeSettings (p : Fin 16) (d : Lane) :
    (s.setLane p d).writeSettings = s.writeSettings := rfl
@[simp] theorem State.setLane_players (p : Fin 16) (d : Lane) :
    (s.setLane p d).players = s.players := rfl
@[simp] theorem State.setLane_laneClaims (p : Fin 16) (d : Lane) :
    (s.setLane p d).laneClaims = s.laneClaims := rfl
@[simp] theorem State.setLane_playerClaims (p : Fin 16) (d : Lane) :
    (s.setLane p d).playerClaims = s.playerClaims := rfl
@[simp] theorem State.setLane_ports (p : Fin 16) (d : Lane) :
    (s.setLane p d).ports = s.ports := rfl
@[simp] theorem State.setLane_notices (p : Fin 16) (d : Lane) :
    (s.setLane p d).notices = s.notices := rfl
@[simp] theorem State.setLane_acceptedFrames (p : Fin 16) (d : Lane) :
    (s.setLane p d).acceptedFrames = s.acceptedFrames := rfl
@[simp] theorem State.setLane_choices (p : Fin 16) (d : Lane) :
    (s.setLane p d).choices = s.choices := rfl
@[simp] theorem State.setLane_pending (p : Fin 16) (d : Lane) :
    (s.setLane p d).pending = s.pending := rfl
@[simp] theorem State.setLane_port (p : Fin 16) (d : Lane) (q : Port) :
    (s.setLane p d).port q = s.port q := rfl
@[simp] theorem State.setLane_noticeQueue (p : Fin 16) (d : Lane) (q : Port) :
    (s.setLane p d).noticeQueue q = s.noticeQueue q := rfl
@[simp] theorem State.setLane_writeSetting (p : Fin 16) (d : Lane) (q : Port) :
    (s.setLane p d).writeSetting q = s.writeSetting q := rfl
@[simp] theorem State.setLane_allocation (p : Fin 16) (d : Lane) (q : Port) :
    (s.setLane p d).allocation q = s.allocation q := rfl
@[simp] theorem State.setLane_tap (p : Fin 16) (d : Lane) (q : Fin 4) :
    (s.setLane p d).tap q = s.tap q := rfl
@[simp] theorem State.setLane_player (p : Fin 16) (d : Lane) (q : Fin 4) :
    (s.setLane p d).player q = s.player q := rfl
@[simp] theorem State.setLane_laneHolder (p : Fin 16) (d : Lane) (q : Fin 16) :
    (s.setLane p d).laneHolder q = s.laneHolder q := rfl
@[simp] theorem State.setLane_playerHolder (p : Fin 16) (d : Lane) (q : Fin 4) :
    (s.setLane p d).playerHolder q = s.playerHolder q := rfl
@[simp] theorem State.setLane_cueCount (p : Fin 16) (d : Lane) (q : Port) :
    (s.setLane p d).cueCount q = s.cueCount q := rfl
@[simp] theorem State.setLane_leads (p : Fin 16) (d : Lane) (q : Port) :
    (s.setLane p d).leads q = s.leads q := rfl
@[simp] theorem State.setLane_bids (p : Fin 16) (d : Lane) (q : Port) :
    (s.setLane p d).bids q = s.bids q := rfl
theorem State.setLane_lane (p : Fin 16) (d : Lane) (q : Fin 16) :
    (s.setLane p d).lane q = if p = q then d else s.lane q := by
  simp only [State.lane, State.setLane, Fin.getElem_fin, Vector.getElem_set, Fin.val_inj]
@[simp] theorem State.setLane_lane_self (p : Fin 16) (d : Lane) : (s.setLane p d).lane p = d := by
  simp [State.setLane_lane]
theorem State.setLane_lane_other (p : Fin 16) (d : Lane) (q : Fin 16) (h : q ≠ p) :
    (s.setLane p d).lane q = s.lane q := by
  simp [State.setLane_lane, Ne.symm h]

end Machine

end Sys2Proof
end

