-- ==== Sys2Proof/Laws/Taking.lean ====
section
/-! SUPPORT. What the end of a frame and the answering of a command can do, and the one lemma through which
every command's meaning is read: a command that can be taken acts in the state its frame's end leaves,
and its reply is all that is added. -/

namespace Sys2Proof.Machine

variable (s : State)


/-! ### `State.restartSilence` -/

@[simp] theorem State.restartSilence_rstLow (p : Port) :
    (s.restartSilence p).rstLow = s.rstLow := by
  unfold State.restartSilence; split <;> rfl
@[simp] theorem State.restartSilence_houseTime (p : Port) :
    (s.restartSilence p).houseTime = s.houseTime := by
  unfold State.restartSilence; split <;> rfl
@[simp] theorem State.restartSilence_clearing (p : Port) :
    (s.restartSilence p).clearing = s.clearing := by
  unfold State.restartSilence; split <;> rfl
@[simp] theorem State.restartSilence_engine (p : Port) :
    (s.restartSilence p).engine = s.engine := by
  unfold State.restartSilence; split <;> rfl
@[simp] theorem State.restartSilence_transport (p : Port) :
    (s.restartSilence p).transport = s.transport := by
  unfold State.restartSilence; split <;> rfl
@[simp] theorem State.restartSilence_gen (p : Port) :
    (s.restartSilence p).gen = s.gen := by
  unfold State.restartSilence; split <;> rfl
@[simp] theorem State.restartSilence_queue (p : Port) :
    (s.restartSilence p).queue = s.queue := by
  unfold State.restartSilence; split <;> rfl
@[simp] theorem State.restartSilence_lastBeat (p : Port) :
    (s.restartSilence p).lastBeat = s.lastBeat := by
  unfold State.restartSilence; split <;> rfl
@[simp] theorem State.restartSilence_taps (p : Port) :
    (s.restartSilence p).taps = s.taps := by
  unfold State.restartSilence; split <;> rfl
@[simp] theorem State.restartSilence_cues (p : Port) :
    (s.restartSilence p).cues = s.cues := by
  unfold State.restartSilence; split <;> rfl
@[simp] theorem State.restartSilence_allocations (p : Port) :
    (s.restartSilence p).allocations = s.allocations := by
  unfold State.restartSilence; split <;> rfl
@[simp] theorem State.restartSilence_patternMem (p : Port) :
    (s.restartSilence p).patternMem = s.patternMem := by
  unfold State.restartSilence; split <;> rfl
@[simp] theorem State.restartSilence_writeSettings (p : Port) :
    (s.restartSilence p).writeSettings = s.writeSettings := by
  unfold State.restartSilence; split <;> rfl
@[simp] theorem State.restartSilence_players (p : Port) :
    (s.restartSilence p).players = s.players := by
  unfold State.restartSilence; split <;> rfl
@[simp] theorem State.restartSilence_laneClaims (p : Port) :
    (s.restartSilence p).laneClaims = s.laneClaims := by
  unfold State.restartSilence; split <;> rfl
@[simp] theorem State.restartSilence_playerClaims (p : Port) :
    (s.restartSilence p).playerClaims = s.playerClaims := by
  unfold State.restartSilence; split <;> rfl
@[simp] theorem State.restartSilence_lanes (p : Port) :
    (s.restartSilence p).lanes = s.lanes := by
  unfold State.restartSilence; split <;> rfl
@[simp] theorem State.restartSilence_ports (p : Port) :
    (s.restartSilence p).ports = s.ports := by
  unfold State.restartSilence; split <;> rfl
@[simp] theorem State.restartSilence_notices (p : Port) :
    (s.restartSilence p).notices = s.notices := by
  unfold State.restartSilence; split <;> rfl
@[simp] theorem State.restartSilence_acceptedFrames (p : Port) :
    (s.restartSilence p).acceptedFrames = s.acceptedFrames := by
  unfold State.restartSilence; split <;> rfl
@[simp] theorem State.restartSilence_choices (p : Port) :
    (s.restartSilence p).choices = s.choices := by
  unfold State.restartSilence; split <;> rfl
@[simp] theorem State.restartSilence_pending (p : Port) :
    (s.restartSilence p).pending = s.pending := by
  unfold State.restartSilence; split <;> rfl
@[simp] theorem State.restartSilence_port (p : Port) (r : Port) :
    (s.restartSilence p).port r = s.port r := by
  unfold State.restartSilence; split <;> rfl
@[simp] theorem State.restartSilence_noticeQueue (p : Port) (r : Port) :
    (s.restartSilence p).noticeQueue r = s.noticeQueue r := by
  unfold State.restartSilence; split <;> rfl
@[simp] theorem State.restartSilence_writeSetting (p : Port) (r : Port) :
    (s.restartSilence p).writeSetting r = s.writeSetting r := by
  unfold State.restartSilence; split <;> rfl
@[simp] theorem State.restartSilence_allocation (p : Port) (r : Port) :
    (s.restartSilence p).allocation r = s.allocation r := by
  unfold State.restartSilence; split <;> rfl
@[simp] theorem State.restartSilence_tap (p : Port) (r : Fin 4) :
    (s.restartSilence p).tap r = s.tap r := by
  unfold State.restartSilence; split <;> rfl
@[simp] theorem State.restartSilence_player (p : Port) (r : Fin 4) :
    (s.restartSilence p).player r = s.player r := by
  unfold State.restartSilence; split <;> rfl
@[simp] theorem State.restartSilence_lane (p : Port) (r : Fin 16) :
    (s.restartSilence p).lane r = s.lane r := by
  unfold State.restartSilence; split <;> rfl
@[simp] theorem State.restartSilence_laneHolder (p : Port) (r : Fin 16) :
    (s.restartSilence p).laneHolder r = s.laneHolder r := by
  unfold State.restartSilence; split <;> rfl
@[simp] theorem State.restartSilence_playerHolder (p : Port) (r : Fin 4) :
    (s.restartSilence p).playerHolder r = s.playerHolder r := by
  unfold State.restartSilence; split <;> rfl
@[simp] theorem State.restartSilence_cueCount (p : Port) (r : Port) :
    (s.restartSilence p).cueCount r = s.cueCount r := by
  unfold State.restartSilence; split <;> rfl
@[simp] theorem State.restartSilence_leads (p : Port) (r : Port) :
    (s.restartSilence p).leads r = s.leads r := by
  unfold State.restartSilence; split <;> rfl
@[simp] theorem State.restartSilence_bids (p : Port) (r : Port) :
    (s.restartSilence p).bids r = s.bids r := by
  unfold State.restartSilence; split <;> rfl
@[simp] theorem State.restartSilence_leader (p : Port) :
    (s.restartSilence p).arbiter.leader = s.arbiter.leader := by
  unfold State.restartSilence; split <;> rfl
@[simp] theorem State.restartSilence_slot (p : Port) :
    (s.restartSilence p).arbiter.slot = s.arbiter.slot := by
  unfold State.restartSilence; split <;> rfl
@[simp] theorem State.restartSilence_waitExpiry (p : Port) :
    (s.restartSilence p).arbiter.waitExpiry = s.arbiter.waitExpiry := by
  unfold State.restartSilence; split <;> rfl

/-- The silence timer after a restart for port `p` (R69). -/
theorem State.restartSilence_silenceExpiry (p : Port) :
    (s.restartSilence p).arbiter.silenceExpiry =
      if s.arbiter.leader = .port p then
        if (s.port p).silenceLimit = 0 then none
        else some (later s.houseTime ((s.port p).silenceLimit * 100000))
      else s.arbiter.silenceExpiry := by
  unfold State.restartSilence; split <;> rfl


/-! ### `State.frameEnds` -/

@[simp] theorem State.frameEnds_rstLow (p : Port) (out : List Byte) :
    (s.frameEnds p out).rstLow = s.rstLow := by
  simp [State.frameEnds]
@[simp] theorem State.frameEnds_houseTime (p : Port) (out : List Byte) :
    (s.frameEnds p out).houseTime = s.houseTime := by
  simp [State.frameEnds]
@[simp] theorem State.frameEnds_clearing (p : Port) (out : List Byte) :
    (s.frameEnds p out).clearing = s.clearing := by
  simp [State.frameEnds]
@[simp] theorem State.frameEnds_engine (p : Port) (out : List Byte) :
    (s.frameEnds p out).engine = s.engine := by
  simp [State.frameEnds]
@[simp] theorem State.frameEnds_transport (p : Port) (out : List Byte) :
    (s.frameEnds p out).transport = s.transport := by
  simp [State.frameEnds]
@[simp] theorem State.frameEnds_gen (p : Port) (out : List Byte) :
    (s.frameEnds p out).gen = s.gen := by
  simp [State.frameEnds]
@[simp] theorem State.frameEnds_queue (p : Port) (out : List Byte) :
    (s.frameEnds p out).queue = s.queue := by
  simp [State.frameEnds]
@[simp] theorem State.frameEnds_lastBeat (p : Port) (out : List Byte) :
    (s.frameEnds p out).lastBeat = s.lastBeat := by
  simp [State.frameEnds]
@[simp] theorem State.frameEnds_taps (p : Port) (out : List Byte) :
    (s.frameEnds p out).taps = s.taps := by
  simp [State.frameEnds]
@[simp] theorem State.frameEnds_cues (p : Port) (out : List Byte) :
    (s.frameEnds p out).cues = s.cues := by
  simp [State.frameEnds]
@[simp] theorem State.frameEnds_allocations (p : Port) (out : List Byte) :
    (s.frameEnds p out).allocations = s.allocations := by
  simp [State.frameEnds]
@[simp] theorem State.frameEnds_patternMem (p : Port) (out : List Byte) :
    (s.frameEnds p out).patternMem = s.patternMem := by
  simp [State.frameEnds]
@[simp] theorem State.frameEnds_writeSettings (p : Port) (out : List Byte) :
    (s.frameEnds p out).writeSettings = s.writeSettings := by
  simp [State.frameEnds]
@[simp] theorem State.frameEnds_players (p : Port) (out : List Byte) :
    (s.frameEnds p out).players = s.players := by
  simp [State.frameEnds]
@[simp] theorem State.frameEnds_laneClaims (p : Port) (out : List Byte) :
    (s.frameEnds p out).laneClaims = s.laneClaims := by
  simp [State.frameEnds]
@[simp] theorem State.frameEnds_playerClaims (p : Port) (out : List Byte) :
    (s.frameEnds p out).playerClaims = s.playerClaims := by
  simp [State.frameEnds]
@[simp] theorem State.frameEnds_lanes (p : Port) (out : List Byte) :
    (s.frameEnds p out).lanes = s.lanes := by
  simp [State.frameEnds]
@[simp] theorem State.frameEnds_notices (p : Port) (out : List Byte) :
    (s.frameEnds p out).notices = s.notices := by
  simp [State.frameEnds]
@[simp] theorem State.frameEnds_acceptedFrames (p : Port) (out : List Byte) :
    (s.frameEnds p out).acceptedFrames = s.acceptedFrames := by
  simp [State.frameEnds]
@[simp] theorem State.frameEnds_choices (p : Port) (out : List Byte) :
    (s.frameEnds p out).choices = s.choices := by
  simp [State.frameEnds]
@[simp] theorem State.frameEnds_pending (p : Port) (out : List Byte) :
    (s.frameEnds p out).pending = s.pending := by
  simp [State.frameEnds]
@[simp] theorem State.frameEnds_noticeQueue (p : Port) (out : List Byte) (r : Port) :
    (s.frameEnds p out).noticeQueue r = s.noticeQueue r := by
  simp [State.frameEnds]
@[simp] theorem State.frameEnds_writeSetting (p : Port) (out : List Byte) (r : Port) :
    (s.frameEnds p out).writeSetting r = s.writeSetting r := by
  simp [State.frameEnds]
@[simp] theorem State.frameEnds_allocation (p : Port) (out : List Byte) (r : Port) :
    (s.frameEnds p out).allocation r = s.allocation r := by
  simp [State.frameEnds]
@[simp] theorem State.frameEnds_tap (p : Port) (out : List Byte) (r : Fin 4) :
    (s.frameEnds p out).tap r = s.tap r := by
  simp [State.frameEnds]
@[simp] theorem State.frameEnds_player (p : Port) (out : List Byte) (r : Fin 4) :
    (s.frameEnds p out).player r = s.player r := by
  simp [State.frameEnds]
@[simp] theorem State.frameEnds_lane (p : Port) (out : List Byte) (r : Fin 16) :
    (s.frameEnds p out).lane r = s.lane r := by
  simp [State.frameEnds]
@[simp] theorem State.frameEnds_laneHolder (p : Port) (out : List Byte) (r : Fin 16) :
    (s.frameEnds p out).laneHolder r = s.laneHolder r := by
  simp [State.frameEnds]
@[simp] theorem State.frameEnds_playerHolder (p : Port) (out : List Byte) (r : Fin 4) :
    (s.frameEnds p out).playerHolder r = s.playerHolder r := by
  simp [State.frameEnds]
@[simp] theorem State.frameEnds_cueCount (p : Port) (out : List Byte) (r : Port) :
    (s.frameEnds p out).cueCount r = s.cueCount r := by
  simp [State.frameEnds]
@[simp] theorem State.frameEnds_leads (p : Port) (out : List Byte) (r : Port) :
    (s.frameEnds p out).leads r = s.leads r := by
  simp [State.frameEnds]
@[simp] theorem State.frameEnds_bids (p : Port) (out : List Byte) (r : Port) :
    (s.frameEnds p out).bids r = s.bids r := by
  simp [State.frameEnds]
@[simp] theorem State.frameEnds_leader (p : Port) (out : List Byte) :
    (s.frameEnds p out).arbiter.leader = s.arbiter.leader := by
  simp [State.frameEnds]
@[simp] theorem State.frameEnds_slot (p : Port) (out : List Byte) :
    (s.frameEnds p out).arbiter.slot = s.arbiter.slot := by
  simp [State.frameEnds]
@[simp] theorem State.frameEnds_waitExpiry (p : Port) (out : List Byte) :
    (s.frameEnds p out).arbiter.waitExpiry = s.arbiter.waitExpiry := by
  simp [State.frameEnds]

/-- The ports after a frame's end: data-out of the frame's port, nothing else (R163). -/
theorem State.frameEnds_port (p q : Port) (out : List Byte) :
    (s.frameEnds p out).port q = if p = q then { s.port p with dataOut := out } else s.port q := by
  simp [State.frameEnds, State.setPort_port]

@[simp] theorem State.frameEnds_port_isOpen (p q : Port) (out : List Byte) :
    ((s.frameEnds p out).port q).isOpen = (s.port q).isOpen := by
  rw [State.frameEnds_port]; split <;> simp_all
@[simp] theorem State.frameEnds_port_eligible (p q : Port) (out : List Byte) :
    ((s.frameEnds p out).port q).eligible = (s.port q).eligible := by
  rw [State.frameEnds_port]; split <;> simp_all
@[simp] theorem State.frameEnds_port_rank (p q : Port) (out : List Byte) :
    ((s.frameEnds p out).port q).rank = (s.port q).rank := by
  rw [State.frameEnds_port]; split <;> simp_all
@[simp] theorem State.frameEnds_port_silenceLimit (p q : Port) (out : List Byte) :
    ((s.frameEnds p out).port q).silenceLimit = (s.port q).silenceLimit := by
  rw [State.frameEnds_port]; split <;> simp_all
@[simp] theorem State.frameEnds_port_attention (p q : Port) (out : List Byte) :
    ((s.frameEnds p out).port q).attention = (s.port q).attention := by
  rw [State.frameEnds_port]; split <;> simp_all
@[simp] theorem State.frameEnds_port_reply (p q : Port) (out : List Byte) :
    ((s.frameEnds p out).port q).reply = (s.port q).reply := by
  rw [State.frameEnds_port]; split <;> simp_all
@[simp] theorem State.frameEnds_port_inFlight (p q : Port) (out : List Byte) :
    ((s.frameEnds p out).port q).inFlight = (s.port q).inFlight := by
  rw [State.frameEnds_port]; split <;> simp_all
@[simp] theorem State.frameEnds_port_ready (p q : Port) (out : List Byte) :
    ((s.frameEnds p out).port q).ready = (s.port q).ready := by
  rw [State.frameEnds_port]; split <;> simp_all
@[simp] theorem State.frameEnds_port_attn (p q : Port) (out : List Byte) :
    ((s.frameEnds p out).port q).attn = (s.port q).attn := by
  rw [State.frameEnds_port]; split <;> simp_all
@[simp] theorem State.frameEnds_port_session (p q : Port) (out : List Byte) :
    ((s.frameEnds p out).port q).session = (s.port q).session := by
  rw [State.frameEnds_port]; split <;> simp_all
@[simp] theorem State.frameEnds_port_takeAt (p q : Port) (out : List Byte) :
    ((s.frameEnds p out).port q).takeAt = (s.port q).takeAt := by
  rw [State.frameEnds_port]; split <;> simp_all

/-- The silence timer after a frame's end (R69). -/
theorem State.frameEnds_silenceExpiry (p : Port) (out : List Byte) :
    (s.frameEnds p out).arbiter.silenceExpiry =
      if s.arbiter.leader = .port p then
        if (s.port p).silenceLimit = 0 then none
        else some (later s.houseTime ((s.port p).silenceLimit * 100000))
      else s.arbiter.silenceExpiry := by
  simp [State.frameEnds, State.restartSilence_silenceExpiry]


/-! ### `State.heard` -/

@[simp] theorem State.heard_rstLow (p : Port) (i : Instr) :
    (s.heard p i).rstLow = s.rstLow := by
  unfold State.heard; split <;> simp
@[simp] theorem State.heard_houseTime (p : Port) (i : Instr) :
    (s.heard p i).houseTime = s.houseTime := by
  unfold State.heard; split <;> simp
@[simp] theorem State.heard_clearing (p : Port) (i : Instr) :
    (s.heard p i).clearing = s.clearing := by
  unfold State.heard; split <;> simp
@[simp] theorem State.heard_engine (p : Port) (i : Instr) :
    (s.heard p i).engine = s.engine := by
  unfold State.heard; split <;> simp
@[simp] theorem State.heard_transport (p : Port) (i : Instr) :
    (s.heard p i).transport = s.transport := by
  unfold State.heard; split <;> simp
@[simp] theorem State.heard_gen (p : Port) (i : Instr) :
    (s.heard p i).gen = s.gen := by
  unfold State.heard; split <;> simp
@[simp] theorem State.heard_queue (p : Port) (i : Instr) :
    (s.heard p i).queue = s.queue := by
  unfold State.heard; split <;> simp
@[simp] theorem State.heard_lastBeat (p : Port) (i : Instr) :
    (s.heard p i).lastBeat = s.lastBeat := by
  unfold State.heard; split <;> simp
@[simp] theorem State.heard_taps (p : Port) (i : Instr) :
    (s.heard p i).taps = s.taps := by
  unfold State.heard; split <;> simp
@[simp] theorem State.heard_cues (p : Port) (i : Instr) :
    (s.heard p i).cues = s.cues := by
  unfold State.heard; split <;> simp
@[simp] theorem State.heard_allocations (p : Port) (i : Instr) :
    (s.heard p i).allocations = s.allocations := by
  unfold State.heard; split <;> simp
@[simp] theorem State.heard_patternMem (p : Port) (i : Instr) :
    (s.heard p i).patternMem = s.patternMem := by
  unfold State.heard; split <;> simp
@[simp] theorem State.heard_writeSettings (p : Port) (i : Instr) :
    (s.heard p i).writeSettings = s.writeSettings := by
  unfold State.heard; split <;> simp
@[simp] theorem State.heard_players (p : Port) (i : Instr) :
    (s.heard p i).players = s.players := by
  unfold State.heard; split <;> simp
@[simp] theorem State.heard_laneClaims (p : Port) (i : Instr) :
    (s.heard p i).laneClaims = s.laneClaims := by
  unfold State.heard; split <;> simp
@[simp] theorem State.heard_playerClaims (p : Port) (i : Instr) :
    (s.heard p i).playerClaims = s.playerClaims := by
  unfold State.heard; split <;> simp
@[simp] theorem State.heard_lanes (p : Port) (i : Instr) :
    (s.heard p i).lanes = s.lanes := by
  unfold State.heard; split <;> simp
@[simp] theorem State.heard_notices (p : Port) (i : Instr) :
    (s.heard p i).notices = s.notices := by
  unfold State.heard; split <;> simp
@[simp] theorem State.heard_acceptedFrames (p : Port) (i : Instr) :
    (s.heard p i).acceptedFrames = s.acceptedFrames := by
  unfold State.heard; split <;> simp
@[simp] theorem State.heard_choices (p : Port) (i : Instr) :
    (s.heard p i).choices = s.choices := by
  unfold State.heard; split <;> simp
@[simp] theorem State.heard_pending (p : Port) (i : Instr) :
    (s.heard p i).pending = s.pending := by
  unfold State.heard; split <;> simp
@[simp] theorem State.heard_noticeQueue (p : Port) (i : Instr) (r : Port) :
    (s.heard p i).noticeQueue r = s.noticeQueue r := by
  unfold State.heard; split <;> simp
@[simp] theorem State.heard_writeSetting (p : Port) (i : Instr) (r : Port) :
    (s.heard p i).writeSetting r = s.writeSetting r := by
  unfold State.heard; split <;> simp
@[simp] theorem State.heard_allocation (p : Port) (i : Instr) (r : Port) :
    (s.heard p i).allocation r = s.allocation r := by
  unfold State.heard; split <;> simp
@[simp] theorem State.heard_tap (p : Port) (i : Instr) (r : Fin 4) :
    (s.heard p i).tap r = s.tap r := by
  unfold State.heard; split <;> simp
@[simp] theorem State.heard_player (p : Port) (i : Instr) (r : Fin 4) :
    (s.heard p i).player r = s.player r := by
  unfold State.heard; split <;> simp
@[simp] theorem State.heard_lane (p : Port) (i : Instr) (r : Fin 16) :
    (s.heard p i).lane r = s.lane r := by
  unfold State.heard; split <;> simp
@[simp] theorem State.heard_laneHolder (p : Port) (i : Instr) (r : Fin 16) :
    (s.heard p i).laneHolder r = s.laneHolder r := by
  unfold State.heard; split <;> simp
@[simp] theorem State.heard_playerHolder (p : Port) (i : Instr) (r : Fin 4) :
    (s.heard p i).playerHolder r = s.playerHolder r := by
  unfold State.heard; split <;> simp
@[simp] theorem State.heard_cueCount (p : Port) (i : Instr) (r : Port) :
    (s.heard p i).cueCount r = s.cueCount r := by
  unfold State.heard; split <;> simp
@[simp] theorem State.heard_leads (p : Port) (i : Instr) (r : Port) :
    (s.heard p i).leads r = s.leads r := by
  unfold State.heard; split <;> simp
@[simp] theorem State.heard_bids (p : Port) (i : Instr) (r : Port) :
    (s.heard p i).bids r = s.bids r := by
  unfold State.heard; split <;> simp
@[simp] theorem State.heard_leader (p : Port) (i : Instr) :
    (s.heard p i).arbiter.leader = s.arbiter.leader := by
  unfold State.heard; split <;> simp
@[simp] theorem State.heard_slot (p : Port) (i : Instr) :
    (s.heard p i).arbiter.slot = s.arbiter.slot := by
  unfold State.heard; split <;> simp
@[simp] theorem State.heard_waitExpiry (p : Port) (i : Instr) :
    (s.heard p i).arbiter.waitExpiry = s.arbiter.waitExpiry := by
  unfold State.heard; split <;> simp
@[simp] theorem State.heard_port_isOpen (p q : Port) (i : Instr) :
    ((s.heard p i).port q).isOpen = (s.port q).isOpen := by
  unfold State.heard; split <;> simp
@[simp] theorem State.heard_port_eligible (p q : Port) (i : Instr) :
    ((s.heard p i).port q).eligible = (s.port q).eligible := by
  unfold State.heard; split <;> simp
@[simp] theorem State.heard_port_rank (p q : Port) (i : Instr) :
    ((s.heard p i).port q).rank = (s.port q).rank := by
  unfold State.heard; split <;> simp
@[simp] theorem State.heard_port_silenceLimit (p q : Port) (i : Instr) :
    ((s.heard p i).port q).silenceLimit = (s.port q).silenceLimit := by
  unfold State.heard; split <;> simp
@[simp] theorem State.heard_port_attention (p q : Port) (i : Instr) :
    ((s.heard p i).port q).attention = (s.port q).attention := by
  unfold State.heard; split <;> simp
@[simp] theorem State.heard_port_reply (p q : Port) (i : Instr) :
    ((s.heard p i).port q).reply = (s.port q).reply := by
  unfold State.heard; split <;> simp
@[simp] theorem State.heard_port_inFlight (p q : Port) (i : Instr) :
    ((s.heard p i).port q).inFlight = (s.port q).inFlight := by
  unfold State.heard; split <;> simp
@[simp] theorem State.heard_port_ready (p q : Port) (i : Instr) :
    ((s.heard p i).port q).ready = (s.port q).ready := by
  unfold State.heard; split <;> simp
@[simp] theorem State.heard_port_attn (p q : Port) (i : Instr) :
    ((s.heard p i).port q).attn = (s.port q).attn := by
  unfold State.heard; split <;> simp
@[simp] theorem State.heard_port_session (p q : Port) (i : Instr) :
    ((s.heard p i).port q).session = (s.port q).session := by
  unfold State.heard; split <;> simp
@[simp] theorem State.heard_port_takeAt (p q : Port) (i : Instr) :
    ((s.heard p i).port q).takeAt = (s.port q).takeAt := by
  unfold State.heard; split <;> simp

/-- The other ports stand while a frame ends on port `p` (R163). -/
theorem State.heard_port_other (p q : Port) (i : Instr) (h : p ≠ q) :
    (s.heard p i).port q = s.port q := by
  unfold State.heard; split
  · rw [State.frameEnds_port, if_neg h]
  · rfl


/-! ### `State.answered` -/

@[simp] theorem State.answered_rstLow (p : Port) (code : Byte) (a : Answer) :
    (s.answered p code a).rstLow = s.rstLow := by
  simp [State.answered]
@[simp] theorem State.answered_houseTime (p : Port) (code : Byte) (a : Answer) :
    (s.answered p code a).houseTime = s.houseTime := by
  simp [State.answered]
@[simp] theorem State.answered_clearing (p : Port) (code : Byte) (a : Answer) :
    (s.answered p code a).clearing = s.clearing := by
  simp [State.answered]
@[simp] theorem State.answered_engine (p : Port) (code : Byte) (a : Answer) :
    (s.answered p code a).engine = s.engine := by
  simp [State.answered]
@[simp] theorem State.answered_transport (p : Port) (code : Byte) (a : Answer) :
    (s.answered p code a).transport = s.transport := by
  simp [State.answered]
@[simp] theorem State.answered_gen (p : Port) (code : Byte) (a : Answer) :
    (s.answered p code a).gen = s.gen := by
  simp [State.answered]
@[simp] theorem State.answered_queue (p : Port) (code : Byte) (a : Answer) :
    (s.answered p code a).queue = s.queue := by
  simp [State.answered]
@[simp] theorem State.answered_lastBeat (p : Port) (code : Byte) (a : Answer) :
    (s.answered p code a).lastBeat = s.lastBeat := by
  simp [State.answered]
@[simp] theorem State.answered_arbiter (p : Port) (code : Byte) (a : Answer) :
    (s.answered p code a).arbiter = s.arbiter := by
  simp [State.answered]
@[simp] theorem State.answered_taps (p : Port) (code : Byte) (a : Answer) :
    (s.answered p code a).taps = s.taps := by
  simp [State.answered]
@[simp] theorem State.answered_cues (p : Port) (code : Byte) (a : Answer) :
    (s.answered p code a).cues = s.cues := by
  simp [State.answered]
@[simp] theorem State.answered_allocations (p : Port) (code : Byte) (a : Answer) :
    (s.answered p code a).allocations = s.allocations := by
  simp [State.answered]
@[simp] theorem State.answered_patternMem (p : Port) (code : Byte) (a : Answer) :
    (s.answered p code a).patternMem = s.patternMem := by
  simp [State.answered]
@[simp] theorem State.answered_writeSettings (p : Port) (code : Byte) (a : Answer) :
    (s.answered p code a).writeSettings = s.writeSettings := by
  simp [State.answered]
@[simp] theorem State.answered_players (p : Port) (code : Byte) (a : Answer) :
    (s.answered p code a).players = s.players := by
  simp [State.answered]
@[simp] theorem State.answered_laneClaims (p : Port) (code : Byte) (a : Answer) :
    (s.answered p code a).laneClaims = s.laneClaims := by
  simp [State.answered]
@[simp] theorem State.answered_playerClaims (p : Port) (code : Byte) (a : Answer) :
    (s.answered p code a).playerClaims = s.playerClaims := by
  simp [State.answered]
@[simp] theorem State.answered_lanes (p : Port) (code : Byte) (a : Answer) :
    (s.answered p code a).lanes = s.lanes := by
  simp [State.answered]
@[simp] theorem State.answered_notices (p : Port) (code : Byte) (a : Answer) :
    (s.answered p code a).notices = s.notices := by
  simp [State.answered]
@[simp] theorem State.answered_acceptedFrames (p : Port) (code : Byte) (a : Answer) :
    (s.answered p code a).acceptedFrames = s.acceptedFrames := by
  simp [State.answered]
@[simp] theorem State.answered_choices (p : Port) (code : Byte) (a : Answer) :
    (s.answered p code a).choices = s.choices := by
  simp [State.answered]
@[simp] theorem State.answered_pending (p : Port) (code : Byte) (a : Answer) :
    (s.answered p code a).pending = s.pending := by
  simp [State.answered]
@[simp] theorem State.answered_noticeQueue (p : Port) (code : Byte) (a : Answer) (r : Port) :
    (s.answered p code a).noticeQueue r = s.noticeQueue r := by
  simp [State.answered]
@[simp] theorem State.answered_writeSetting (p : Port) (code : Byte) (a : Answer) (r : Port) :
    (s.answered p code a).writeSetting r = s.writeSetting r := by
  simp [State.answered]
@[simp] theorem State.answered_allocation (p : Port) (code : Byte) (a : Answer) (r : Port) :
    (s.answered p code a).allocation r = s.allocation r := by
  simp [State.answered]
@[simp] theorem State.answered_tap (p : Port) (code : Byte) (a : Answer) (r : Fin 4) :
    (s.answered p code a).tap r = s.tap r := by
  simp [State.answered]
@[simp] theorem State.answered_player (p : Port) (code : Byte) (a : Answer) (r : Fin 4) :
    (s.answered p code a).player r = s.player r := by
  simp [State.answered]
@[simp] theorem State.answered_lane (p : Port) (code : Byte) (a : Answer) (r : Fin 16) :
    (s.answered p code a).lane r = s.lane r := by
  simp [State.answered]
@[simp] theorem State.answered_laneHolder (p : Port) (code : Byte) (a : Answer) (r : Fin 16) :
    (s.answered p code a).laneHolder r = s.laneHolder r := by
  simp [State.answered]
@[simp] theorem State.answered_playerHolder (p : Port) (code : Byte) (a : Answer) (r : Fin 4) :
    (s.answered p code a).playerHolder r = s.playerHolder r := by
  simp [State.answered]
@[simp] theorem State.answered_cueCount (p : Port) (code : Byte) (a : Answer) (r : Port) :
    (s.answered p code a).cueCount r = s.cueCount r := by
  simp [State.answered]
@[simp] theorem State.answered_leads (p : Port) (code : Byte) (a : Answer) (r : Port) :
    (s.answered p code a).leads r = s.leads r := by
  simp [State.answered]
@[simp] theorem State.answered_bids (p : Port) (code : Byte) (a : Answer) (r : Port) :
    (s.answered p code a).bids r = s.bids r := by
  simp [State.answered]

/-- The ports after an answer: reply, command in flight and READY of the port answered (R164). -/
theorem State.answered_port (p q : Port) (code : Byte) (a : Answer) :
    (s.answered p code a).port q =
      if p = q then
        { s.port p with
          reply := some ⟨a.status, code, a.payload⟩, inFlight := none, takeAt := none, ready := true }
      else s.port q := by
  simp [State.answered, State.setPort_port]

/-! ### The taking of a command -/

variable {s}

/-- A command that can be taken is finished in the state its frame's end leaves (R164). -/
theorem arrive_of_canTake {p : Port} {i : Instr} (h : s.canTake p i) (code : Byte)
    (finish : State → State) : arrive p code i finish s = .next (finish (s.heard p i)) := by
  obtain ⟨hr, hw⟩ := h
  unfold arrive State.heard
  by_cases hready : (s.port p).ready = true
  · simp [hr, hready]
  · have hw : s.awaits p i = true := hw.resolve_left hready
    simp [hr, hready, hw]

/-- A command of an open port that can be taken acts and is answered (R164, R167). -/
theorem take_of_canCommand {p : Port} {i : Instr} (h : s.canCommand p i) (code : Byte)
    (body : State → State × Answer) :
    take p code i body s =
      .next ((body (s.heard p i)).1.answered p code (body (s.heard p i)).2) := by
  rw [take, arrive_of_canTake h.1]
  simp [runCommand, h.2]

/-- A command a closed port may send acts and is answered (R167, check 3). -/
theorem take_of_exempt {p : Port} {i : Instr} (h : s.canTake p i) {code : Byte}
    (hx : openExempt code = true) (body : State → State × Answer) :
    take p code i body s =
      .next ((body (s.heard p i)).1.answered p code (body (s.heard p i)).2) := by
  rw [take, arrive_of_canTake h]
  simp [runCommand, hx]

/-- Any other command of a closed port is answered NOT_OPEN, and nothing else of the part changes
(R167, check 3). -/
theorem take_of_closed {p : Port} {i : Instr} (h : s.canTake p i) (hc : (s.port p).isOpen = false)
    {code : Byte} (hx : openExempt code = false) (body : State → State × Answer) :
    take p code i body s = .next ((s.heard p i).answered p code (.bare .notOpen)) := by
  rw [take, arrive_of_canTake h]
  simp [runCommand, hx, hc]

/-- Everything a command of a port can come to: RST holds it off, it is taken, or it is ignored with
OVERRUN (R1, R164, R166). -/
theorem take_cases (p : Port) (code : Byte) (i : Instr) (body : State → State × Answer) :
    (s.rstLow = true ∧ take p code i body s = .next s)
      ∨ (s.canTake p i ∧ take p code i body s = .next (runCommand p code body (s.heard p i)))
      ∨ (s.rstLow = false ∧ (s.port p).ready = false
        ∧ take p code i body s = .next (s.overrun p code (frameBytes i).length)) := by
  unfold take arrive State.canTake State.heard
  cases hr : s.rstLow <;> cases hd : (s.port p).ready <;> cases hw : s.awaits p i <;> simp

/-- A leader-only command acts for the leader (R56). -/
theorem asLeader_of_leads {p : Port} (h : s.arbiter.leader = .port p)
    (body : State → State × Answer) : asLeader p body s = body s := by
  simp [asLeader, State.leads, h]

/-- A leader-only command of another port is refused NOT_LEADER (R56). -/
theorem asLeader_of_not {p : Port} (h : s.arbiter.leader ≠ .port p)
    (body : State → State × Answer) : asLeader p body s = (s, .bare .notLeader) := by
  simp [asLeader, State.leads, h, refusal]

/-- A command of the pattern memory acts once the clear has ended (R121). -/
theorem afterClear_of_done (h : s.clearing = false) (body : State → State × Answer) :
    afterClear body s = body s := by
  simp [afterClear, h]

end Sys2Proof.Machine
end

