-- ==== Sys2Proof/Laws/Commands.lean ====
section
/-! SUPPORT. Every command a frame spells is run by one operation: its meaning is `take` with the command's
code and the body of the block that owns it. -/

namespace Sys2Proof.Machine

/-- A command's meaning is the taking of its owner's body (R164, R167). -/
theorem exec_eq_take {i : Instr} {p : Port} {code : Byte} {payload : List Byte}
    (hc : commandPayload i = some (code, payload)) (hp : i.port? = some p) :
    ∃ body, ∀ s, exec i s = take p code i body s := by
  cases i <;>
    simp only [commandPayload, Instr.port?, Option.some.injEq, Prod.mk.injEq, reduceCtorEq] at hc hp <;>
    obtain ⟨rfl, -⟩ := hc <;> subst hp <;> exact ⟨_, fun _ => rfl⟩

/-- A leader-only command checks the leadership first (R56). -/
theorem exec_eq_asLeader {i : Instr} {p : Port} {code : Byte} {payload : List Byte}
    (hc : commandPayload i = some (code, payload)) (hp : i.port? = some p)
    (hl : code ∈ ([0x10, 0x11, 0x12, 0x13, 0x14, 0x15, 0x16, 0x26, 0x21, 0x22, 0x23, 0x25] : List Byte)) :
    ∃ body, ∀ s, exec i s = take p code i (asLeader p body) s := by
  cases i <;>
    simp only [commandPayload, Instr.port?, Option.some.injEq, Prod.mk.injEq, reduceCtorEq] at hc hp <;>
    obtain ⟨rfl, -⟩ := hc <;> subst hp <;>
    first
      | exact absurd hl (by decide)
      | exact ⟨_, fun _ => rfl⟩

/-- A command of the pattern memory or the players checks the clear first (R121). -/
theorem exec_eq_afterClear {i : Instr} {p : Port} {code : Byte} {payload : List Byte}
    (hc : commandPayload i = some (code, payload)) (hp : i.port? = some p)
    (hl : code ∈ ([0x40, 0x41, 0x42, 0x43, 0x44, 0x45, 0x46, 0x48, 0x49, 0x4A, 0x4B] : List Byte)) :
    ∃ body, ∀ s, exec i s = take p code i (afterClear body) s := by
  cases i <;>
    simp only [commandPayload, Instr.port?, Option.some.injEq, Prod.mk.injEq, reduceCtorEq] at hc hp <;>
    obtain ⟨rfl, -⟩ := hc <;> subst hp <;>
    first
      | exact absurd hl (by decide)
      | exact ⟨_, fun _ => rfl⟩

end Sys2Proof.Machine
end

