-- ==== Sys2Proof/Laws/Making.lean ====
section
/-! SUPPORT. For the firing of a cue, the making of a record and the seating of a lane, one lemma each that says
what the operation can do, and the frames of the folds that post notices. -/

namespace Sys2Proof.Machine

/-! ### Frames -/

/-- Posting a notice changes the ports and the notice queues alone. -/
theorem State.postAt_frame (s : State) (p : Port) (b : NoticeBody) (x : Option Position) :
    s.postAt p b x = { s with ports := (s.postAt p b x).ports, notices := (s.postAt p b x).notices } := by
  unfold State.postAt State.give
  split
  · split
    · rfl
    · rfl
  · rfl

/-- What each step of a fold leaves alone but the ports and the notice queues, the fold does. -/
theorem foldl_frame {α : Type} (f : State → α → State)
    (hf : ∀ s a, f s a = { s with ports := (f s a).ports, notices := (f s a).notices })
    (l : List α) (s : State) :
    l.foldl f s = { s with ports := (l.foldl f s).ports, notices := (l.foldl f s).notices } := by
  induction l generalizing s with
  | nil => rfl
  | cons a l ih =>
    rw [List.foldl_cons, ih, hf]

/-- Posting the notices given at a making changes the ports and the notice queues alone. -/
theorem State.postGiven_frame (s : State) (made : Bool) (x : Position) (g : List (Port × NoticeBody)) :
    s.postGiven made x g =
      { s with ports := (s.postGiven made x g).ports, notices := (s.postGiven made x g).notices } :=
  foldl_frame _ (fun s a => by
    split
    · rfl
    · exact State.postAt_frame s _ _ _) g s

/-- Dropping every cue changes the pool, the ports and the notice queues alone. -/
theorem State.dropAllCues_frame (s : State) :
    s.dropAllCues =
      { s with cues := [], ports := s.dropAllCues.ports, notices := s.dropAllCues.notices } :=
  congrArg (fun t : State => { t with cues := [] })
    (foldl_frame (fun s c => s.post c.owner (.cueDropped c.id c.tag c.action.kind .relocated c.fire))
      (fun s _ => State.postAt_frame s _ _ _) s.cues s)

/-- A firing cue acts on the players and the engine alone. -/
theorem Firing.act_frame (f : Firing) (c : Cue) :
    (f.act c).state =
      { f.state with players := (f.act c).state.players, engine := (f.act c).state.engine } := by
  unfold Firing.act
  split <;> (try unfold Firing.muteLanes) <;> (try dsimp only) <;> (repeat' split) <;> rfl

/-- What firing a cue adds to a firing: its own changes over those before, and its notice behind them. -/
theorem Firing.act_join (f : Firing) (c : Cue) :
    let g := Firing.act ⟨f.state, Vector.replicate 16 none, [], false⟩ c
    f.act c = ⟨g.state, Vector.ofFn fun l => (g.changes[l]).or f.changes[l], f.given ++ g.given,
      f.stop || g.stop⟩ := by
  have hz : (Vector.ofFn fun l : Fin 16 => ((Vector.replicate 16 none : Vector (Option Mute) 16)[l]).or f.changes[l])
      = f.changes := by
    ext l hl
    simp
  have hm : ∀ (a : BitVec 16) (m : Mute), (Vector.ofFn fun l : Fin 16 => if a.getLsbD l.val then some m else f.changes[l])
      = Vector.ofFn fun l : Fin 16 => ((Vector.ofFn fun l : Fin 16 => if a.getLsbD l.val then some m
          else (Vector.replicate 16 none : Vector (Option Mute) 16)[l])[l]).or f.changes[l] := by
    intro a m
    ext l hl
    cases h : a[l] <;> simp [h]
  obtain ⟨s, ch, gv, st⟩ := f
  dsimp only at hz hm ⊢
  unfold Firing.act
  split <;> (try unfold Firing.muteLanes) <;> (try dsimp only) <;> (repeat' split) <;>
    simp only [Firing.drop, Firing.fired, hz, hm, List.nil_append, Bool.or_false, Bool.or_true]
/-- Giving a sound-notice entry to its port changes the ports and the notice queues alone. -/
theorem State.giveEntry_frame (s : State) (r : PulseRecord) (e : SoundEntry) :
    s.giveEntry r e =
      { s with ports := (s.giveEntry r e).ports, notices := (s.giveEntry r e).notices } := by
  unfold State.giveEntry
  split
  · exact foldl_frame _ (fun s b => by unfold State.give; split <;> rfl) e.bodies s
  · rfl

/-- The sounding of a record changes its flag, the ports and the notice queues alone. -/
theorem State.sound_frame (s : State) (r : PulseRecord) :
    s.sound r =
      { s with queue := markSounded s.queue, ports := (s.sound r).ports, notices := (s.sound r).notices } :=
  foldl_frame (fun s e => s.giveEntry r e) (fun s e => s.giveEntry_frame r e) r.sounds
    { s with queue := markSounded s.queue }

/-! ### The making of a record -/

/-- A step that makes a record is `makeRecord`, and at a launch the change to RUNNING after it. -/
theorem exec_stepRow {s : State} {launch : Bool} (h : s.makesRecord launch) :
    exec (stepRow launch) s = .next
      (if launch then
        (makeRecord true { s.fireCues with state := s.fireCues.state.setLaunchN }).enter .running
      else makeRecord false s.fireCues) := by
  obtain ⟨hd, hs, hf⟩ := h
  cases launch
  · simp only [Bool.false_eq_true, if_false] at hd
    simp [stepRow, exec, execGeneratorStep, hd, State.generate, hs, hf]
  · simp only [if_true] at hd
    simp [stepRow, exec, execLaunchStep, hd, State.launch, hs, hf]

/-- What the making of a record leaves of the queue, the players, the last beat start, the generator, the
engine, the pool and the notices. -/
theorem makeRecord_spec (launch : Bool) (f : Firing) :
    let s := f.state.applyMeter
    let x := s.gen.position
    let t := makeRecord launch f
    let r := s.newRecord launch f.changes f.given
    let posted := s.postGiven true x (s.givenAt f.given (s.playersAt launch))
    t.queue = s.queue ++ [r]
    ∧ t.players = Vector.ofFn (fun i => ((s.playersAt launch)[i]).1)
    ∧ t.lastBeat = (if r.markers.beatStart then some ⟨r.pulse, r.position, r.refTime⟩ else s.lastBeat)
    ∧ t.gen = ⟨x.advance s.engine.meter, s.gen.pulse + 1,
        s.gen.n + BitVec.ofInt 80 ((s.engine.interval : Int) + s.engine.slipPortion)⟩
    ∧ t.engine = s.engine.afterRecord
    ∧ t.cues = (if x.lastOfBar s.engine.meter ∧ Config.lastBar ≤ x.bar then []
        else if x.lastOfBar s.engine.meter then carryCues x.bar s.engine.meter s.cues else s.cues)
    ∧ (¬ (x.lastOfBar s.engine.meter ∧ Config.lastBar ≤ x.bar) →
      t.ports = posted.ports ∧ t.notices = posted.notices) := by
  dsimp only
  have hp := State.postGiven_frame f.state.applyMeter true f.state.applyMeter.gen.position
    (f.state.applyMeter.givenAt f.given (f.state.applyMeter.playersAt launch))
  unfold makeRecord State.wrapDrop
  dsimp only
  split
  · next h =>
    rw [State.dropAllCues_frame]
    dsimp only [State.stepOn, State.append]
    rw [hp]
    exact ⟨rfl, rfl, rfl, rfl, rfl, rfl, fun n => absurd h n⟩
  · next h =>
    dsimp only [State.stepOn, State.append]
    rw [hp]
    exact ⟨rfl, rfl, rfl, rfl, rfl, rfl, fun _ => ⟨rfl, rfl⟩⟩

/-! ### Retirement and fetching -/

/-- The front record leaves the queue, or ends DRAINING where it carries the last marker. -/
theorem State.retire_cons {s : State} {r : PulseRecord} {q : List PulseRecord} (h : s.queue = r :: q) :
    s.retire = if r.markers.last then s.drained else { s with queue := q } := by
  simp [State.retire, h]

/-- A fetch frame shifts out as many bytes as are clocked. -/
theorem DeskPort.fetchBytes_length (d : DeskPort) (f : Fetch) : (d.fetchBytes f).length = f.clocked := by
  simp [DeskPort.fetchBytes]

/-! ### Seating -/

/-- What a lane meets in a record is what passing over it leaves. -/
theorem Lane.meet_eq_passedOver (i : Fin 16) (now : Time) (r : PulseRecord) (l : Lane) :
    l.meet i now r = l.passedOver i now r := by
  obtain ⟨⟨mode, _, _, _, _, _, _, _, _, _, _, _⟩, _, _, _, _, run, _, _⟩ := l
  cases h : r.laneChanges.find? (fun c => decide (c.lane = i)) <;> cases hl : r.markers.last <;>
    cases hm : r.markers.launch <;> cases run <;> cases mode <;>
    simp [Lane.meet, Lane.passedOver, Lane.applyEntry, Lane.launchFlag, Lane.noteLast, h, hl, hm, shifted]

/-- Meeting records one after the other is passing over them. -/
theorem foldl_meet (i : Fin 16) (now : Time) (q : List PulseRecord) (l : Lane) :
    q.foldl (fun l r => l.meet i now r) l = q.foldl (fun l r => l.passedOver i now r) l := by
  simp only [Lane.meet_eq_passedOver]

/-- A list whose first part satisfies `p`, and whose second does not begin with such an entry, is cut
there. -/
theorem takeWhile_append_of_forall {α : Type} (p : α → Bool) (a b : List α)
    (ha : ∀ x ∈ a, p x = true) (hb : ∀ x, b.head? = some x → p x = false) :
    (a ++ b).takeWhile p = a ∧ (a ++ b).dropWhile p = b := by
  rw [List.takeWhile_append_of_pos ha, List.dropWhile_append_of_pos ha]
  cases b with
  | nil => simp
  | cons x b => simp [hb x rfl]

/-- Seating does what `Lane.Reseats` says. -/
theorem Lane.seat_reseats (i : Fin 16) (now : Time) (q : List PulseRecord) (l : Lane) :
    l.Reseats i now q (l.seat i now q) := by
  refine ⟨fun h => by simp [Lane.seat, h], fun n h hn => ?_, fun past ahead hq h hp ha => ?_,
    fun old passed ahead r hq hr ho h hp ha => ?_⟩
  · have : recordsFrom q n = [] := by
      simp only [recordsFrom, List.dropWhile_eq_nil_iff, decide_eq_true_eq]
      exact hn
    simp [Lane.seat, h, this]
  · have := takeWhile_append_of_forall (l.seatsBeyond now) past ahead
      (fun x hx => by simpa [Lane.seatsBeyond, playTime, shifted] using hp x hx)
      (fun x hx => by simpa [Lane.seatsBeyond, playTime, shifted] using ha x hx)
    simp only [Lane.seat, h, hq, this.2]
    cases ahead <;> rfl
  · have hf : recordsFrom q r.pulse = passed ++ ahead := by
      have := takeWhile_append_of_forall (fun x : PulseRecord => decide (x.pulse ≠ r.pulse)) old
        (passed ++ ahead) (fun x hx => decide_eq_true (ho x hx))
        (fun x hx => by rw [hr] at hx; cases hx; simp)
      rw [hq]; exact this.2
    have hw := takeWhile_append_of_forall
      (fun r => decide ((playTime r l.settings.offset).toNat ≤ now.toNat))
      passed ahead (fun x hx => decide_eq_true (hp x hx)) (fun x hx => decide_eq_false (ha x hx))
    simp only [Lane.seat, h, hf, hw.1, hw.2, foldl_meet]
    refine ⟨fun e => by simp [e], fun e => ?_⟩
    cases passed with
    | nil => exact absurd rfl e
    | cons x xs => cases ahead <;> rfl

end Sys2Proof.Machine
end

