-- ==== Sys2Proof/Laws/Memory.lean ====
section
/-! SUPPORT. The cells of the pattern memory and the play registers: every operation keeps the canonical
form, a read after a write gives the level written, and a write leaves every other cell alone. -/

namespace Sys2Proof.Machine

variable {bound low a b : Nat} {m : List Host.Cell}

/-- What the canonical form says of a memory's first entry and of the rest. -/
theorem Memory.risesFrom_cons {k : Nat} {v : BitVec 8} :
    Memory.risesFrom bound low ((k, v) :: m) = true ↔
      low ≤ k ∧ k < bound ∧ v ≠ 0 ∧ v.toNat ≤ 3 ∧ Memory.risesFrom bound (k + 1) m = true := by
  simp only [Memory.risesFrom, Bool.and_eq_true, decide_eq_true_eq, and_assoc]

/-- A memory that rises from `low` rises from anything below. -/
theorem Memory.risesFrom_mono {low' : Nat} (hl : low' ≤ low)
    (h : Memory.risesFrom bound low m = true) : Memory.risesFrom bound low' m = true := by
  cases m with
  | nil => rfl
  | cons c m =>
    obtain ⟨k, v⟩ := c
    rw [Memory.risesFrom_cons] at h ⊢
    exact ⟨hl.trans h.1, h.2⟩

/-- Below its first address a memory reads as 0. -/
theorem Memory.read_below (h : Memory.risesFrom bound low m = true) (ha : a < low) :
    Memory.read m a = 0 := by
  induction m generalizing low with
  | nil => rfl
  | cons c m ih =>
    obtain ⟨k, v⟩ := c
    rw [Memory.risesFrom_cons] at h
    rw [Memory.read, if_neg (by omega)]
    exact ih h.2.2.2.2 (by omega)

/-- A read after a write: the value written at its address, the old value elsewhere. -/
theorem Memory.read_write (h : Memory.risesFrom bound low m = true) (v : BitVec 8) :
    Memory.read (Memory.write m a v) b = if a = b then v else Memory.read m b := by
  induction m generalizing low with
  | nil =>
    simp only [Memory.write]
    split <;> simp_all [Memory.read]
  | cons c m ih =>
    obtain ⟨k, w⟩ := c
    have h' := Memory.risesFrom_cons.1 h
    unfold Memory.write
    split
    · next hak =>
      have hz : Memory.read ((k, w) :: m) a = 0 :=
        Memory.read_below (Memory.risesFrom_cons.2 ⟨le_refl k, h'.2⟩) hak
      split
      · next hv => subst hv; split <;> simp_all
      · rw [Memory.read]
    · split
      · next hak =>
        subst hak
        have hz : Memory.read m a = 0 := Memory.read_below h'.2.2.2.2 (Nat.lt_succ_self a)
        split
        · next hv =>
          subst hv
          split
          · next hb => subst hb; exact hz
          · next hb => rw [Memory.read, if_neg hb]
        · simp only [Memory.read]; split <;> rfl
      · next hlt hne =>
        simp only [Memory.read]
        rw [ih h'.2.2.2.2]
        split
        · next hkb => rw [if_neg (by omega)]
        · rfl

/-- A write of a level keeps the canonical form. -/
theorem Memory.risesFrom_write (h : Memory.risesFrom bound low m = true) (hl : low ≤ a)
    (ha : a < bound) {v : BitVec 8} (hv : v.toNat ≤ 3) :
    Memory.risesFrom bound low (Memory.write m a v) = true := by
  induction m generalizing low with
  | nil =>
    simp only [Memory.write]
    split
    · rfl
    · next hz => exact Memory.risesFrom_cons.2 ⟨hl, ha, hz, hv, rfl⟩
  | cons c m ih =>
    obtain ⟨k, w⟩ := c
    have h' := Memory.risesFrom_cons.1 h
    unfold Memory.write
    split
    · next hak =>
      split
      · exact h
      · next hz =>
        exact Memory.risesFrom_cons.2
          ⟨hl, ha, hz, hv, Memory.risesFrom_cons.2 ⟨by omega, h'.2⟩⟩
    · split
      · next hak =>
        subst hak
        split
        · exact Memory.risesFrom_mono (by omega) h'.2.2.2.2
        · next hz => exact Memory.risesFrom_cons.2 ⟨hl, ha, hz, hv, h'.2.2.2.2⟩
      · exact Memory.risesFrom_cons.2
          ⟨h'.1, h'.2.1, h'.2.2.1, h'.2.2.2.1, ih h'.2.2.2.2 (by omega)⟩

/-- A level takes two bits. -/
theorem level_toNat_le (l : Level) : (l.setWidth 8).toNat ≤ 3 := by
  simp only [BitVec.toNat_setWidth]
  have := l.isLt
  omega

/-- The level at an address after a level is written. -/
theorem levelAt_writeLevel (h : Memory.wf bound m = true) (l : Level) :
    levelAt (writeLevel m a l) b = if a = b then l else levelAt m b := by
  unfold levelAt writeLevel
  rw [Memory.read_write h]
  split
  · simp
  · rfl

/-- A written level keeps the canonical form. -/
theorem Memory.wf_writeLevel (h : Memory.wf bound m = true) (ha : a < bound) (l : Level) :
    Memory.wf bound (writeLevel m a l) = true :=
  Memory.risesFrom_write h (Nat.zero_le a) ha (level_toNat_le l)

/-- One step of `writeLevels`: the planes of a list, one after the other. -/
def writePlanes (m : List Host.Cell) (a : Nat) (planes : BitVec 8) (ls : Levels)
    (ps : List (Fin 8)) : List Host.Cell :=
  ps.foldl (fun m p => if planes.getLsbD p.val then writeLevel m (a + p.val) ls[p] else m) m

theorem writeLevels_eq (m : List Host.Cell) (a : Nat) (planes : BitVec 8) (ls : Levels) :
    writeLevels m a planes ls = writePlanes m a planes ls (List.finRange 8) := rfl

/-- The planes written keep the canonical form. -/
theorem Memory.wf_writePlanes (planes : BitVec 8) (ls : Levels) (ps : List (Fin 8))
    (ha : a + 7 < bound) :
    ∀ {m : List Host.Cell}, Memory.wf bound m = true →
      Memory.wf bound (writePlanes m a planes ls ps) = true := by
  induction ps with
  | nil => intro m h; exact h
  | cons p ps ih =>
    intro m h
    rw [writePlanes, List.foldl_cons]
    refine ih ?_
    split
    · exact Memory.wf_writeLevel h (by omega) _
    · exact h

/-- The level at an address after some planes of a step are written. -/
theorem levelAt_writePlanes (planes : BitVec 8) (ls : Levels) (ps : List (Fin 8))
    (hn : ps.Nodup) (ha : a + 7 < bound) :
    ∀ {m : List Host.Cell}, Memory.wf bound m = true →
      levelAt (writePlanes m a planes ls ps) b =
        match ps.find? (fun p => decide (a + p.val = b) && planes.getLsbD p.val) with
        | some p => ls[p]
        | none => levelAt m b := by
  induction ps with
  | nil => intro m h; rfl
  | cons p ps ih =>
    intro m h
    have hn' := List.nodup_cons.1 hn
    rw [writePlanes, List.foldl_cons, ← writePlanes]
    by_cases hp : planes.getLsbD p.val = true
    · rw [if_pos hp, ih hn'.2 (Memory.wf_writeLevel h (by omega) _), List.find?_cons]
      by_cases hb : a + p.val = b
      · have hnone : ps.find? (fun q => decide (a + q.val = b) && planes.getLsbD q.val) = none := by
          rw [List.find?_eq_none]
          intro q hq hqb
          simp only [Bool.and_eq_true, decide_eq_true_eq] at hqb
          have : q = p := Fin.ext (by omega)
          exact hn'.1 (this ▸ hq)
        rw [hnone]
        simp only [hb, hp, decide_true, Bool.and_self, levelAt_writeLevel h, if_true]
      · simp only [levelAt_writeLevel h, hb, decide_false, Bool.false_and, if_false]
    · rw [Bool.not_eq_true] at hp
      rw [if_neg (by rw [hp]; decide), ih hn'.2 h, List.find?_cons]
      simp only [hp, Bool.and_false]

/-- The levels written into a step keep the canonical form (R120). -/
theorem Memory.wf_writeLevels (h : Memory.wf bound m = true) (ha : a + 7 < bound)
    (planes : BitVec 8) (ls : Levels) : Memory.wf bound (writeLevels m a planes ls) = true :=
  Memory.wf_writePlanes planes ls _ ha h

/-- A plane of the set takes its level; the other planes of the step keep theirs (R123, R125). -/
theorem levelAt_writeLevels_in (h : Memory.wf bound m = true) (ha : a + 7 < bound)
    (planes : BitVec 8) (ls : Levels) (p : Fin 8) :
    levelAt (writeLevels m a planes ls) (a + p.val) =
      if planes.getLsbD p.val then ls[p] else levelAt m (a + p.val) := by
  rw [writeLevels_eq, levelAt_writePlanes planes ls _ (List.nodup_finRange 8) ha h]
  have hf : ∀ q : Fin 8, (decide (a + q.val = a + p.val) && planes.getLsbD q.val) =
      (decide (q = p) && planes.getLsbD p.val) := by
    intro q
    by_cases hq : q = p
    · subst hq; simp
    · have : q.val ≠ p.val := fun hv => hq (Fin.ext hv)
      simp [hq, this]
  simp only [hf]
  cases hp : planes.getLsbD p.val
  · have hnone : (List.finRange 8).find? (fun q => decide (q = p) && false) = none := by
      rw [List.find?_eq_none]; intro q _; simp
    rw [hnone]
    rfl
  · have hsome : ∀ p : Fin 8,
        (List.finRange 8).find? (fun q => decide (q = p) && true) = some p := by decide
    rw [hsome]
    rfl

/-- A cell outside the step keeps its level (R125). -/
theorem levelAt_writeLevels_out (h : Memory.wf bound m = true) (ha : a + 7 < bound)
    (planes : BitVec 8) (ls : Levels) (hb : b < a ∨ a + 8 ≤ b) :
    levelAt (writeLevels m a planes ls) b = levelAt m b := by
  rw [writeLevels_eq, levelAt_writePlanes planes ls _ (List.nodup_finRange 8) ha h]
  have : (List.finRange 8).find? (fun p => decide (a + p.val = b) && planes.getLsbD p.val) = none := by
    rw [List.find?_eq_none]
    intro p _ hp
    simp only [Bool.and_eq_true, decide_eq_true_eq] at hp
    omega
  rw [this]

/-- A fill keeps the canonical form (R126, R127). -/
theorem Memory.wf_fillSteps {row : Nat} (hr : row ≤ 127) (planes : BitVec 8) (l : Levels) :
    ∀ (steps : List Nat) {m : List Host.Cell}, (∀ x ∈ steps, x ≤ 63) →
      Memory.wf cellsInMemory m = true →
      Memory.wf cellsInMemory (fillSteps m row steps planes l) = true := by
  intro steps
  induction steps with
  | nil => intro m _ h; exact h
  | cons x steps ih =>
    intro m hx h
    have hx0 := hx x (by simp)
    rw [fillSteps, List.foldl_cons]
    refine ih (fun y hy => hx y (by simp [hy])) (Memory.wf_writeLevels h ?_ planes l)
    simp only [cellAddress, cellsPerRow, cellsPerStep, cellsInMemory]
    omega

/-- A run of steps keeps the canonical form (R125). -/
theorem Memory.wf_writeRun {row : Nat} (hr : row ≤ 127) (planes : BitVec 8) :
    ∀ (ls : List Levels) {first : Nat} {m : List Host.Cell}, first + ls.length ≤ 64 →
      Memory.wf cellsInMemory m = true →
      Memory.wf cellsInMemory (writeRun m row first planes ls) = true := by
  intro ls
  induction ls with
  | nil => intro first m _ h; exact h
  | cons l ls ih =>
    intro first m hf h
    simp only [List.length_cons] at hf
    rw [writeRun, List.foldl_cons]
    refine ih (first := first + 1) (by omega) (Memory.wf_writeLevels h ?_ planes l)
    simp only [cellAddress, cellsPerRow, cellsPerStep, cellsInMemory]
    omega

/-! ### Windows: the copies a load makes -/

/-- Two memories, the second above the first, make one. -/
theorem Memory.risesFrom_append {mid : Nat} {m' : List Host.Cell} (hb : mid ≤ bound)
    (h' : Memory.risesFrom bound mid m' = true) :
    ∀ {low : Nat}, low ≤ mid → Memory.risesFrom mid low m = true →
      Memory.risesFrom bound low (m ++ m') = true := by
  induction m with
  | nil => intro low hl _; exact Memory.risesFrom_mono hl h'
  | cons c m ih =>
    intro low hl h
    obtain ⟨k, v⟩ := c
    have h := Memory.risesFrom_cons.1 h
    exact Memory.risesFrom_cons.2 ⟨h.1, by omega, h.2.2.1, h.2.2.2.1, ih (by omega) h.2.2.2.2⟩

/-- A window of a memory rises from where it begins and ends where it ends. -/
theorem Memory.risesFrom_window (base len start : Nat) :
    ∀ {low low' : Nat}, Memory.risesFrom bound low m = true → low' ≤ low - base + start →
      low' ≤ start + (low - base) → (low ≤ base → low' ≤ start) →
      Memory.risesFrom (start + len) low' (Memory.window m base len start) = true := by
  induction m with
  | nil => intros; rfl
  | cons c m ih =>
    intro low low' h h1 h2 h3
    obtain ⟨k, v⟩ := c
    have h := Memory.risesFrom_cons.1 h
    by_cases hk : base ≤ k ∧ k < base + len
    · have hw : Memory.window ((k, v) :: m) base len start =
          (k - base + start, v) :: Memory.window m base len start := by
        simp [Memory.window, hk.1, hk.2]
      rw [hw, Memory.risesFrom_cons]
      refine ⟨by omega, by omega, h.2.2.1, h.2.2.2.1, ih h.2.2.2.2 ?_ ?_ ?_⟩ <;> omega
    · have hw : Memory.window ((k, v) :: m) base len start = Memory.window m base len start := by
        simp only [Memory.window, List.filter_cons]
        rw [if_neg (by simpa using hk)]
      rw [hw]
      exact ih h.2.2.2.2 (by omega) (by omega) (by omega)

/-- A copied row is a play register in canonical form (R135). -/
theorem Memory.wf_window (base len : Nat) (h : Memory.wf bound m = true) :
    Memory.wf len (Memory.window m base len 0) = true := by
  have := Memory.risesFrom_window (low' := 0) base len 0 h (by omega) (by omega) (by omega)
  simpa [Memory.wf] using this

/-- What a window reads: the cells it was taken from, 0 elsewhere. -/
theorem Memory.read_window (base len start : Nat) :
    Memory.read (Memory.window m base len start) a =
      if start ≤ a ∧ a < start + len then Memory.read m (a - start + base) else 0 := by
  induction m with
  | nil => simp [Memory.window, Memory.read]
  | cons c m ih =>
    obtain ⟨k, v⟩ := c
    by_cases hk : base ≤ k ∧ k < base + len
    · have hw : Memory.window ((k, v) :: m) base len start =
          (k - base + start, v) :: Memory.window m base len start := by
        simp [Memory.window, hk.1, hk.2]
      rw [hw, Memory.read, ih]
      by_cases ha : k - base + start = a
      · rw [if_pos ha, if_pos (by omega), Memory.read, if_pos (by omega)]
      · rw [if_neg ha]
        split
        · rw [Memory.read, if_neg (by omega)]
        · rfl
    · have hw : Memory.window ((k, v) :: m) base len start = Memory.window m base len start := by
        simp only [Memory.window, List.filter_cons]
        rw [if_neg (by simpa using hk)]
      rw [hw, ih]
      split
      · rw [Memory.read, if_neg (by omega)]
      · rfl

/-- What two memories side by side read, the first lying below `mid` and the second not. -/
theorem Memory.read_append {mid : Nat} {m' : List Host.Cell} (h' : Memory.risesFrom bound mid m' = true) :
    ∀ {low : Nat}, Memory.risesFrom mid low m = true →
      Memory.read (m ++ m') a = if a < mid then Memory.read m a else Memory.read m' a := by
  induction m with
  | nil =>
    intro low _
    split
    · next ha => exact Memory.read_below h' ha
    · rfl
  | cons c m ih =>
    intro low h
    obtain ⟨k, v⟩ := c
    have h := Memory.risesFrom_cons.1 h
    rw [List.cons_append, Memory.read, Memory.read, ih h.2.2.2.2]
    by_cases hk : k = a
    · rw [if_pos hk, if_pos (by omega), if_pos hk]
    · rw [if_neg hk, if_neg hk]

/-- A half load keeps the play register in canonical form (R137). -/
theorem Player.wf_loadHalf {pl : Player} {mem : List Host.Cell}
    (hm : Memory.wf cellsInMemory mem = true) (hp : Memory.wf cellsPerRow pl.register = true)
    (row tap : Nat) : Memory.wf cellsPerRow (pl.loadHalf mem row tap).register = true := by
  have hlow : ∀ {bound : Nat} {m : List Host.Cell} (base : Nat), Memory.wf bound m = true →
      Memory.risesFrom 256 0 (Memory.window m base 256 0) = true := by
    intro bound m base h
    have := Memory.risesFrom_window (low' := 0) base 256 0 h (by omega) (by omega) (by omega)
    simpa using this
  have hhigh : ∀ {bound : Nat} {m : List Host.Cell} (base : Nat), Memory.wf bound m = true →
      Memory.risesFrom 512 256 (Memory.window m base 256 256) = true := by
    intro bound m base h
    have := Memory.risesFrom_window (low' := 256) base 256 256 h (by omega) (by omega) (by omega)
    simpa using this
  unfold Player.loadHalf
  split
  · exact Memory.risesFrom_append (by decide) (hhigh _ hp) (by decide) (hlow _ hm)
  · exact Memory.risesFrom_append (by decide) (hhigh _ hm) (by decide) (hlow _ hp)

/-- A row load keeps the play register in canonical form (R135). -/
theorem Player.wf_loadRow {pl : Player} {mem : List Host.Cell}
    (hm : Memory.wf cellsInMemory mem = true) (row tap : Nat) (making : Bool) :
    Memory.wf cellsPerRow (pl.loadRow mem row tap making).register = true :=
  Memory.wf_window _ _ hm

/-- The memory right after reset has the canonical form. -/
theorem Memory.wf_reset : Memory.wf cellsInMemory State.reset.patternMem = true := rfl

end Sys2Proof.Machine
end

