-- ==== Sys2Proof/Laws/Operations.lean ====
section
/-! SUPPORT. For the shared operations of the blocks, one lemma each that says what it can do: clamps,
positions, capture rings, the leader field and the horizon queue's newest record. -/

namespace Sys2Proof.Machine

/-! ### Operands -/

/-- A clamp into a range that is not empty lands in it, keeps what lies in it, and says whether it did. -/
theorem clampNat_spec {lo hi v : Nat} (h : lo ≤ hi) :
    lo ≤ (clampNat lo hi v).1 ∧ (clampNat lo hi v).1 ≤ hi
      ∧ ((clampNat lo hi v).2 = false ↔ (clampNat lo hi v).1 = v) := by
  simp only [clampNat, decide_eq_false_iff_not]
  omega

/-- A signed clamp into a range that is not empty lands in it, keeps what lies in it, and says whether it
did. -/
theorem clampInt_spec {lo hi v : Int} (h : lo ≤ hi) :
    lo ≤ (clampInt lo hi v).1 ∧ (clampInt lo hi v).1 ≤ hi
      ∧ ((clampInt lo hi v).2 = false ↔ (clampInt lo hi v).1 = v) := by
  simp only [clampInt, decide_eq_false_iff_not]
  omega

/-- A byte of at most 1 is 0 or 1. -/
theorem byte_le_one (k : Byte) : k.toNat ≤ 1 ↔ k = 0 ∨ k = 1 := by
  constructor
  · intro h
    have : k.toNat = 0 ∨ k.toNat = 1 := by omega
    exact this.imp (fun h => BitVec.eq_of_toNat_eq h) fun h => BitVec.eq_of_toNat_eq h
  · rintro (rfl | rfl) <;> decide

/-- A tap or player number is read exactly when it names one. -/
theorem readFour_eq_some (b : Byte) (i : Fin 4) : readFour b = some i ↔ b.toNat = i.val := by
  unfold readFour
  split <;> simp [Fin.ext_iff]
  omega

/-- A lane number is read exactly when it names one. -/
theorem readLaneNumber_eq_some (b : Byte) (l : Fin 16) :
    readLaneNumber b = some l ↔ b.toNat = l.val := by
  unfold readLaneNumber
  split <;> simp [Fin.ext_iff]
  omega

/-! ### Positions -/

/-- One position is before another by bar, then beat, then pulse. -/
theorem Position.before_iff (p q : Position) :
    p.before q = true ↔
      p.bar < q.bar ∨ p.bar = q.bar ∧ (p.beat < q.beat ∨ p.beat = q.beat ∧ p.pulse < q.pulse) := by
  simp [Position.before]

/-- No position is before itself. -/
theorem Position.before_irrefl (p : Position) : p.before p = false := by
  simp [Position.before]

/-- A bar start is beat 1, pulse 0. -/
theorem Position.barStart_iff (p : Position) : p.barStart = true ↔ p.beat = 1 ∧ p.pulse = 0 := by
  simp [Position.barStart]

/-! ### Capture rings -/

/-- The newest edge of a ring of two or more. -/
theorem ring_getLast? (a b : Time) (m : List Time) : (a :: (m ++ [b])).getLast? = some b := by
  rw [← List.cons_append, List.getLast?_append]
  rfl

/-- The span of a ring of two or more (R81). -/
theorem ringSpan_eq (a b : Time) (m : List Time) : ringSpan (a :: (m ++ [b])) = (b - a).toInt := by
  simp only [ringSpan, ring_getLast?, List.head?_cons, signedDiff]

/-- The mean edge interval of a ring of two or more (R83). -/
theorem meanEdge_eq (a b : Time) (m : List Time) :
    meanEdge (a :: (m ++ [b])) = some ((b - a).toInt / ((m.length + 1 : Nat) : Int)) := by
  simp only [meanEdge, ringSpan_eq]
  rw [if_neg (by simp)]
  simp

/-- A ring of two or more has an oldest and a newest edge. -/
theorem exists_ends {α : Type} (l : List α) (h : 2 ≤ l.length) : ∃ a m b, l = a :: (m ++ [b]) := by
  cases l with
  | nil => simp at h
  | cons a t =>
    rcases List.eq_nil_or_concat t with rfl | ⟨m, b, rfl⟩
    · simp at h
    · exact ⟨a, m, b, by simp⟩

/-! ### The leader field -/

/-- The leader field set: the field, follow mode and the slip change and nothing else (R22, R89). -/
theorem State.setLeader_spec (s : State) (l : Leader) :
    (s.setLeader l).arbiter = { s.arbiter with leader := l }
      ∧ (s.setLeader l).engine = { s.engine with slip := 0 }
      ∧ (∀ t, (s.setLeader l).tap t =
          if s.arbiter.leader = .tap t ∨ l = .tap t then
            { s.tap t with follow := decide (l = .tap t) } else s.tap t)
      ∧ s.setLeader l = { s with
          arbiter := (s.setLeader l).arbiter, engine := (s.setLeader l).engine
          taps := (s.setLeader l).taps } := by
  refine ⟨rfl, rfl, fun t => ?_, rfl⟩
  simp [State.setLeader, State.clearSlip, State.tap]

/-- A command the leader can send finds its port leading. -/
theorem State.heard_leader_of_canLead {p : Port} {s : State} {i : Instr} (h : s.canLead p i) :
    (s.heard p i).arbiter.leader = .port p := by
  simpa using h.2

/-! ### The horizon queue -/

/-- The last marker goes on the newest record alone (R33). -/
theorem markNewest_concat (q : List PulseRecord) (r : PulseRecord) :
    markNewest (q ++ [r]) = q ++ [{ r with markers := { r.markers with last := true } }] := by
  induction q with
  | nil => rfl
  | cons a q ih =>
    cases q with
    | nil => rfl
    | cons b q =>
      simp only [List.cons_append] at ih ⊢
      rw [markNewest, ih]
      simp

end Sys2Proof.Machine
end

