-- ==== Sys2Proof/Laws/Posting.lean ====
section
/-! SUPPORT. What posting a notice can do: it appends to, or sets the flag of, the notice queue of the port
it goes to, ATTN follows, and nothing else of the part changes. -/

namespace Sys2Proof.Machine

variable (s : State)

/-- ATTN after a refresh; every other item of every port stands. -/
theorem State.refreshAttn_port (p q : Port) :
    (s.refreshAttn p).port q =
      if p = q then { s.port q with attn := s.attnLevel q } else s.port q := by
  unfold State.refreshAttn
  rw [State.setPort_port]
  split
  · next h => subst h; rfl
  · rfl


/-! ### `State.refreshAttn` -/

@[simp] theorem State.refreshAttn_rstLow (p : Port) :
    (s.refreshAttn p).rstLow = s.rstLow := by simp [State.refreshAttn]
@[simp] theorem State.refreshAttn_houseTime (p : Port) :
    (s.refreshAttn p).houseTime = s.houseTime := by simp [State.refreshAttn]
@[simp] theorem State.refreshAttn_clearing (p : Port) :
    (s.refreshAttn p).clearing = s.clearing := by simp [State.refreshAttn]
@[simp] theorem State.refreshAttn_engine (p : Port) :
    (s.refreshAttn p).engine = s.engine := by simp [State.refreshAttn]
@[simp] theorem State.refreshAttn_transport (p : Port) :
    (s.refreshAttn p).transport = s.transport := by simp [State.refreshAttn]
@[simp] theorem State.refreshAttn_gen (p : Port) :
    (s.refreshAttn p).gen = s.gen := by simp [State.refreshAttn]
@[simp] theorem State.refreshAttn_queue (p : Port) :
    (s.refreshAttn p).queue = s.queue := by simp [State.refreshAttn]
@[simp] theorem State.refreshAttn_lastBeat (p : Port) :
    (s.refreshAttn p).lastBeat = s.lastBeat := by simp [State.refreshAttn]
@[simp] theorem State.refreshAttn_arbiter (p : Port) :
    (s.refreshAttn p).arbiter = s.arbiter := by simp [State.refreshAttn]
@[simp] theorem State.refreshAttn_taps (p : Port) :
    (s.refreshAttn p).taps = s.taps := by simp [State.refreshAttn]
@[simp] theorem State.refreshAttn_cues (p : Port) :
    (s.refreshAttn p).cues = s.cues := by simp [State.refreshAttn]
@[simp] theorem State.refreshAttn_allocations (p : Port) :
    (s.refreshAttn p).allocations = s.allocations := by simp [State.refreshAttn]
@[simp] theorem State.refreshAttn_patternMem (p : Port) :
    (s.refreshAttn p).patternMem = s.patternMem := by simp [State.refreshAttn]
@[simp] theorem State.refreshAttn_writeSettings (p : Port) :
    (s.refreshAttn p).writeSettings = s.writeSettings := by simp [State.refreshAttn]
@[simp] theorem State.refreshAttn_players (p : Port) :
    (s.refreshAttn p).players = s.players := by simp [State.refreshAttn]
@[simp] theorem State.refreshAttn_laneClaims (p : Port) :
    (s.refreshAttn p).laneClaims = s.laneClaims := by simp [State.refreshAttn]
@[simp] theorem State.refreshAttn_playerClaims (p : Port) :
    (s.refreshAttn p).playerClaims = s.playerClaims := by simp [State.refreshAttn]
@[simp] theorem State.refreshAttn_lanes (p : Port) :
    (s.refreshAttn p).lanes = s.lanes := by simp [State.refreshAttn]
@[simp] theorem State.refreshAttn_notices (p : Port) :
    (s.refreshAttn p).notices = s.notices := by simp [State.refreshAttn]
@[simp] theorem State.refreshAttn_acceptedFrames (p : Port) :
    (s.refreshAttn p).acceptedFrames = s.acceptedFrames := by simp [State.refreshAttn]
@[simp] theorem State.refreshAttn_choices (p : Port) :
    (s.refreshAttn p).choices = s.choices := by simp [State.refreshAttn]
@[simp] theorem State.refreshAttn_pending (p : Port) :
    (s.refreshAttn p).pending = s.pending := by simp [State.refreshAttn]
@[simp] theorem State.refreshAttn_noticeQueue (p : Port) (q : Port) :
    (s.refreshAttn p).noticeQueue q = s.noticeQueue q := by simp [State.refreshAttn]
@[simp] theorem State.refreshAttn_writeSetting (p : Port) (q : Port) :
    (s.refreshAttn p).writeSetting q = s.writeSetting q := by simp [State.refreshAttn]
@[simp] theorem State.refreshAttn_allocation (p : Port) (q : Port) :
    (s.refreshAttn p).allocation q = s.allocation q := by simp [State.refreshAttn]
@[simp] theorem State.refreshAttn_tap (p : Port) (q : Fin 4) :
    (s.refreshAttn p).tap q = s.tap q := by simp [State.refreshAttn]
@[simp] theorem State.refreshAttn_player (p : Port) (q : Fin 4) :
    (s.refreshAttn p).player q = s.player q := by simp [State.refreshAttn]
@[simp] theorem State.refreshAttn_lane (p : Port) (q : Fin 16) :
    (s.refreshAttn p).lane q = s.lane q := by simp [State.refreshAttn]
@[simp] theorem State.refreshAttn_laneHolder (p : Port) (q : Fin 16) :
    (s.refreshAttn p).laneHolder q = s.laneHolder q := by simp [State.refreshAttn]
@[simp] theorem State.refreshAttn_playerHolder (p : Port) (q : Fin 4) :
    (s.refreshAttn p).playerHolder q = s.playerHolder q := by simp [State.refreshAttn]
@[simp] theorem State.refreshAttn_cueCount (p : Port) (q : Port) :
    (s.refreshAttn p).cueCount q = s.cueCount q := by simp [State.refreshAttn]
@[simp] theorem State.refreshAttn_leads (p : Port) (q : Port) :
    (s.refreshAttn p).leads q = s.leads q := by simp [State.refreshAttn]
@[simp] theorem State.refreshAttn_bids (p : Port) (q : Port) :
    (s.refreshAttn p).bids q = s.bids q := by simp [State.refreshAttn]
@[simp] theorem State.refreshAttn_port_isOpen (p : Port) (q : Port) :
    ((s.refreshAttn p).port q).isOpen = (s.port q).isOpen := by
  rw [State.refreshAttn_port]; split <;> rfl
@[simp] theorem State.refreshAttn_port_eligible (p : Port) (q : Port) :
    ((s.refreshAttn p).port q).eligible = (s.port q).eligible := by
  rw [State.refreshAttn_port]; split <;> rfl
@[simp] theorem State.refreshAttn_port_rank (p : Port) (q : Port) :
    ((s.refreshAttn p).port q).rank = (s.port q).rank := by
  rw [State.refreshAttn_port]; split <;> rfl
@[simp] theorem State.refreshAttn_port_silenceLimit (p : Port) (q : Port) :
    ((s.refreshAttn p).port q).silenceLimit = (s.port q).silenceLimit := by
  rw [State.refreshAttn_port]; split <;> rfl
@[simp] theorem State.refreshAttn_port_attention (p : Port) (q : Port) :
    ((s.refreshAttn p).port q).attention = (s.port q).attention := by
  rw [State.refreshAttn_port]; split <;> rfl
@[simp] theorem State.refreshAttn_port_reply (p : Port) (q : Port) :
    ((s.refreshAttn p).port q).reply = (s.port q).reply := by
  rw [State.refreshAttn_port]; split <;> rfl
@[simp] theorem State.refreshAttn_port_inFlight (p : Port) (q : Port) :
    ((s.refreshAttn p).port q).inFlight = (s.port q).inFlight := by
  rw [State.refreshAttn_port]; split <;> rfl
@[simp] theorem State.refreshAttn_port_ready (p : Port) (q : Port) :
    ((s.refreshAttn p).port q).ready = (s.port q).ready := by
  rw [State.refreshAttn_port]; split <;> rfl
@[simp] theorem State.refreshAttn_port_session (p : Port) (q : Port) :
    ((s.refreshAttn p).port q).session = (s.port q).session := by
  rw [State.refreshAttn_port]; split <;> rfl
@[simp] theorem State.refreshAttn_port_takeAt (p : Port) (q : Port) :
    ((s.refreshAttn p).port q).takeAt = (s.port q).takeAt := by
  rw [State.refreshAttn_port]; split <;> rfl
@[simp] theorem State.refreshAttn_port_dataOut (p : Port) (q : Port) :
    ((s.refreshAttn p).port q).dataOut = (s.port q).dataOut := by
  rw [State.refreshAttn_port]; split <;> rfl

/-! ### `State.give` -/

@[simp] theorem State.give_rstLow (p : Port) (n : Notice) :
    (s.give p n).rstLow = s.rstLow := by
  unfold State.give; split <;> simp
@[simp] theorem State.give_houseTime (p : Port) (n : Notice) :
    (s.give p n).houseTime = s.houseTime := by
  unfold State.give; split <;> simp
@[simp] theorem State.give_clearing (p : Port) (n : Notice) :
    (s.give p n).clearing = s.clearing := by
  unfold State.give; split <;> simp
@[simp] theorem State.give_engine (p : Port) (n : Notice) :
    (s.give p n).engine = s.engine := by
  unfold State.give; split <;> simp
@[simp] theorem State.give_transport (p : Port) (n : Notice) :
    (s.give p n).transport = s.transport := by
  unfold State.give; split <;> simp
@[simp] theorem State.give_gen (p : Port) (n : Notice) :
    (s.give p n).gen = s.gen := by
  unfold State.give; split <;> simp
@[simp] theorem State.give_queue (p : Port) (n : Notice) :
    (s.give p n).queue = s.queue := by
  unfold State.give; split <;> simp
@[simp] theorem State.give_lastBeat (p : Port) (n : Notice) :
    (s.give p n).lastBeat = s.lastBeat := by
  unfold State.give; split <;> simp
@[simp] theorem State.give_arbiter (p : Port) (n : Notice) :
    (s.give p n).arbiter = s.arbiter := by
  unfold State.give; split <;> simp
@[simp] theorem State.give_taps (p : Port) (n : Notice) :
    (s.give p n).taps = s.taps := by
  unfold State.give; split <;> simp
@[simp] theorem State.give_cues (p : Port) (n : Notice) :
    (s.give p n).cues = s.cues := by
  unfold State.give; split <;> simp
@[simp] theorem State.give_allocations (p : Port) (n : Notice) :
    (s.give p n).allocations = s.allocations := by
  unfold State.give; split <;> simp
@[simp] theorem State.give_patternMem (p : Port) (n : Notice) :
    (s.give p n).patternMem = s.patternMem := by
  unfold State.give; split <;> simp
@[simp] theorem State.give_writeSettings (p : Port) (n : Notice) :
    (s.give p n).writeSettings = s.writeSettings := by
  unfold State.give; split <;> simp
@[simp] theorem State.give_players (p : Port) (n : Notice) :
    (s.give p n).players = s.players := by
  unfold State.give; split <;> simp
@[simp] theorem State.give_laneClaims (p : Port) (n : Notice) :
    (s.give p n).laneClaims = s.laneClaims := by
  unfold State.give; split <;> simp
@[simp] theorem State.give_playerClaims (p : Port) (n : Notice) :
    (s.give p n).playerClaims = s.playerClaims := by
  unfold State.give; split <;> simp
@[simp] theorem State.give_lanes (p : Port) (n : Notice) :
    (s.give p n).lanes = s.lanes := by
  unfold State.give; split <;> simp
@[simp] theorem State.give_acceptedFrames (p : Port) (n : Notice) :
    (s.give p n).acceptedFrames = s.acceptedFrames := by
  unfold State.give; split <;> simp
@[simp] theorem State.give_choices (p : Port) (n : Notice) :
    (s.give p n).choices = s.choices := by
  unfold State.give; split <;> simp
@[simp] theorem State.give_pending (p : Port) (n : Notice) :
    (s.give p n).pending = s.pending := by
  unfold State.give; split <;> simp
@[simp] theorem State.give_writeSetting (p : Port) (n : Notice) (q : Port) :
    (s.give p n).writeSetting q = s.writeSetting q := by
  unfold State.give; split <;> simp
@[simp] theorem State.give_allocation (p : Port) (n : Notice) (q : Port) :
    (s.give p n).allocation q = s.allocation q := by
  unfold State.give; split <;> simp
@[simp] theorem State.give_tap (p : Port) (n : Notice) (q : Fin 4) :
    (s.give p n).tap q = s.tap q := by
  unfold State.give; split <;> simp
@[simp] theorem State.give_player (p : Port) (n : Notice) (q : Fin 4) :
    (s.give p n).player q = s.player q := by
  unfold State.give; split <;> simp
@[simp] theorem State.give_lane (p : Port) (n : Notice) (q : Fin 16) :
    (s.give p n).lane q = s.lane q := by
  unfold State.give; split <;> simp
@[simp] theorem State.give_laneHolder (p : Port) (n : Notice) (q : Fin 16) :
    (s.give p n).laneHolder q = s.laneHolder q := by
  unfold State.give; split <;> simp
@[simp] theorem State.give_playerHolder (p : Port) (n : Notice) (q : Fin 4) :
    (s.give p n).playerHolder q = s.playerHolder q := by
  unfold State.give; split <;> simp
@[simp] theorem State.give_cueCount (p : Port) (n : Notice) (q : Port) :
    (s.give p n).cueCount q = s.cueCount q := by
  unfold State.give; split <;> simp
@[simp] theorem State.give_leads (p : Port) (n : Notice) (q : Port) :
    (s.give p n).leads q = s.leads q := by
  unfold State.give; split <;> simp
@[simp] theorem State.give_bids (p : Port) (n : Notice) (q : Port) :
    (s.give p n).bids q = s.bids q := by
  unfold State.give; split <;> simp
@[simp] theorem State.give_port_isOpen (p : Port) (n : Notice) (q : Port) :
    ((s.give p n).port q).isOpen = (s.port q).isOpen := by
  unfold State.give; split <;> simp
@[simp] theorem State.give_port_eligible (p : Port) (n : Notice) (q : Port) :
    ((s.give p n).port q).eligible = (s.port q).eligible := by
  unfold State.give; split <;> simp
@[simp] theorem State.give_port_rank (p : Port) (n : Notice) (q : Port) :
    ((s.give p n).port q).rank = (s.port q).rank := by
  unfold State.give; split <;> simp
@[simp] theorem State.give_port_silenceLimit (p : Port) (n : Notice) (q : Port) :
    ((s.give p n).port q).silenceLimit = (s.port q).silenceLimit := by
  unfold State.give; split <;> simp
@[simp] theorem State.give_port_attention (p : Port) (n : Notice) (q : Port) :
    ((s.give p n).port q).attention = (s.port q).attention := by
  unfold State.give; split <;> simp
@[simp] theorem State.give_port_reply (p : Port) (n : Notice) (q : Port) :
    ((s.give p n).port q).reply = (s.port q).reply := by
  unfold State.give; split <;> simp
@[simp] theorem State.give_port_inFlight (p : Port) (n : Notice) (q : Port) :
    ((s.give p n).port q).inFlight = (s.port q).inFlight := by
  unfold State.give; split <;> simp
@[simp] theorem State.give_port_ready (p : Port) (n : Notice) (q : Port) :
    ((s.give p n).port q).ready = (s.port q).ready := by
  unfold State.give; split <;> simp
@[simp] theorem State.give_port_session (p : Port) (n : Notice) (q : Port) :
    ((s.give p n).port q).session = (s.port q).session := by
  unfold State.give; split <;> simp
@[simp] theorem State.give_port_takeAt (p : Port) (n : Notice) (q : Port) :
    ((s.give p n).port q).takeAt = (s.port q).takeAt := by
  unfold State.give; split <;> simp
@[simp] theorem State.give_port_dataOut (p : Port) (n : Notice) (q : Port) :
    ((s.give p n).port q).dataOut = (s.port q).dataOut := by
  unfold State.give; split <;> simp

/-! ### `State.postAt` -/

@[simp] theorem State.postAt_rstLow (p : Port) (b : NoticeBody) (x : Option Position) :
    (s.postAt p b x).rstLow = s.rstLow := by
  unfold State.postAt; split <;> simp
@[simp] theorem State.postAt_houseTime (p : Port) (b : NoticeBody) (x : Option Position) :
    (s.postAt p b x).houseTime = s.houseTime := by
  unfold State.postAt; split <;> simp
@[simp] theorem State.postAt_clearing (p : Port) (b : NoticeBody) (x : Option Position) :
    (s.postAt p b x).clearing = s.clearing := by
  unfold State.postAt; split <;> simp
@[simp] theorem State.postAt_engine (p : Port) (b : NoticeBody) (x : Option Position) :
    (s.postAt p b x).engine = s.engine := by
  unfold State.postAt; split <;> simp
@[simp] theorem State.postAt_transport (p : Port) (b : NoticeBody) (x : Option Position) :
    (s.postAt p b x).transport = s.transport := by
  unfold State.postAt; split <;> simp
@[simp] theorem State.postAt_gen (p : Port) (b : NoticeBody) (x : Option Position) :
    (s.postAt p b x).gen = s.gen := by
  unfold State.postAt; split <;> simp
@[simp] theorem State.postAt_queue (p : Port) (b : NoticeBody) (x : Option Position) :
    (s.postAt p b x).queue = s.queue := by
  unfold State.postAt; split <;> simp
@[simp] theorem State.postAt_lastBeat (p : Port) (b : NoticeBody) (x : Option Position) :
    (s.postAt p b x).lastBeat = s.lastBeat := by
  unfold State.postAt; split <;> simp
@[simp] theorem State.postAt_arbiter (p : Port) (b : NoticeBody) (x : Option Position) :
    (s.postAt p b x).arbiter = s.arbiter := by
  unfold State.postAt; split <;> simp
@[simp] theorem State.postAt_taps (p : Port) (b : NoticeBody) (x : Option Position) :
    (s.postAt p b x).taps = s.taps := by
  unfold State.postAt; split <;> simp
@[simp] theorem State.postAt_cues (p : Port) (b : NoticeBody) (x : Option Position) :
    (s.postAt p b x).cues = s.cues := by
  unfold State.postAt; split <;> simp
@[simp] theorem State.postAt_allocations (p : Port) (b : NoticeBody) (x : Option Position) :
    (s.postAt p b x).allocations = s.allocations := by
  unfold State.postAt; split <;> simp
@[simp] theorem State.postAt_patternMem (p : Port) (b : NoticeBody) (x : Option Position) :
    (s.postAt p b x).patternMem = s.patternMem := by
  unfold State.postAt; split <;> simp
@[simp] theorem State.postAt_writeSettings (p : Port) (b : NoticeBody) (x : Option Position) :
    (s.postAt p b x).writeSettings = s.writeSettings := by
  unfold State.postAt; split <;> simp
@[simp] theorem State.postAt_players (p : Port) (b : NoticeBody) (x : Option Position) :
    (s.postAt p b x).players = s.players := by
  unfold State.postAt; split <;> simp
@[simp] theorem State.postAt_laneClaims (p : Port) (b : NoticeBody) (x : Option Position) :
    (s.postAt p b x).laneClaims = s.laneClaims := by
  unfold State.postAt; split <;> simp
@[simp] theorem State.postAt_playerClaims (p : Port) (b : NoticeBody) (x : Option Position) :
    (s.postAt p b x).playerClaims = s.playerClaims := by
  unfold State.postAt; split <;> simp
@[simp] theorem State.postAt_lanes (p : Port) (b : NoticeBody) (x : Option Position) :
    (s.postAt p b x).lanes = s.lanes := by
  unfold State.postAt; split <;> simp
@[simp] theorem State.postAt_acceptedFrames (p : Port) (b : NoticeBody) (x : Option Position) :
    (s.postAt p b x).acceptedFrames = s.acceptedFrames := by
  unfold State.postAt; split <;> simp
@[simp] theorem State.postAt_choices (p : Port) (b : NoticeBody) (x : Option Position) :
    (s.postAt p b x).choices = s.choices := by
  unfold State.postAt; split <;> simp
@[simp] theorem State.postAt_pending (p : Port) (b : NoticeBody) (x : Option Position) :
    (s.postAt p b x).pending = s.pending := by
  unfold State.postAt; split <;> simp
@[simp] theorem State.postAt_writeSetting (p : Port) (b : NoticeBody) (x : Option Position) (q : Port) :
    (s.postAt p b x).writeSetting q = s.writeSetting q := by
  unfold State.postAt; split <;> simp
@[simp] theorem State.postAt_allocation (p : Port) (b : NoticeBody) (x : Option Position) (q : Port) :
    (s.postAt p b x).allocation q = s.allocation q := by
  unfold State.postAt; split <;> simp
@[simp] theorem State.postAt_tap (p : Port) (b : NoticeBody) (x : Option Position) (q : Fin 4) :
    (s.postAt p b x).tap q = s.tap q := by
  unfold State.postAt; split <;> simp
@[simp] theorem State.postAt_player (p : Port) (b : NoticeBody) (x : Option Position) (q : Fin 4) :
    (s.postAt p b x).player q = s.player q := by
  unfold State.postAt; split <;> simp
@[simp] theorem State.postAt_lane (p : Port) (b : NoticeBody) (x : Option Position) (q : Fin 16) :
    (s.postAt p b x).lane q = s.lane q := by
  unfold State.postAt; split <;> simp
@[simp] theorem State.postAt_laneHolder (p : Port) (b : NoticeBody) (x : Option Position) (q : Fin 16) :
    (s.postAt p b x).laneHolder q = s.laneHolder q := by
  unfold State.postAt; split <;> simp
@[simp] theorem State.postAt_playerHolder (p : Port) (b : NoticeBody) (x : Option Position) (q : Fin 4) :
    (s.postAt p b x).playerHolder q = s.playerHolder q := by
  unfold State.postAt; split <;> simp
@[simp] theorem State.postAt_cueCount (p : Port) (b : NoticeBody) (x : Option Position) (q : Port) :
    (s.postAt p b x).cueCount q = s.cueCount q := by
  unfold State.postAt; split <;> simp
@[simp] theorem State.postAt_leads (p : Port) (b : NoticeBody) (x : Option Position) (q : Port) :
    (s.postAt p b x).leads q = s.leads q := by
  unfold State.postAt; split <;> simp
@[simp] theorem State.postAt_bids (p : Port) (b : NoticeBody) (x : Option Position) (q : Port) :
    (s.postAt p b x).bids q = s.bids q := by
  unfold State.postAt; split <;> simp
@[simp] theorem State.postAt_port_isOpen (p : Port) (b : NoticeBody) (x : Option Position) (q : Port) :
    ((s.postAt p b x).port q).isOpen = (s.port q).isOpen := by
  unfold State.postAt; split <;> simp
@[simp] theorem State.postAt_port_eligible (p : Port) (b : NoticeBody) (x : Option Position) (q : Port) :
    ((s.postAt p b x).port q).eligible = (s.port q).eligible := by
  unfold State.postAt; split <;> simp
@[simp] theorem State.postAt_port_rank (p : Port) (b : NoticeBody) (x : Option Position) (q : Port) :
    ((s.postAt p b x).port q).rank = (s.port q).rank := by
  unfold State.postAt; split <;> simp
@[simp] theorem State.postAt_port_silenceLimit (p : Port) (b : NoticeBody) (x : Option Position) (q : Port) :
    ((s.postAt p b x).port q).silenceLimit = (s.port q).silenceLimit := by
  unfold State.postAt; split <;> simp
@[simp] theorem State.postAt_port_attention (p : Port) (b : NoticeBody) (x : Option Position) (q : Port) :
    ((s.postAt p b x).port q).attention = (s.port q).attention := by
  unfold State.postAt; split <;> simp
@[simp] theorem State.postAt_port_reply (p : Port) (b : NoticeBody) (x : Option Position) (q : Port) :
    ((s.postAt p b x).port q).reply = (s.port q).reply := by
  unfold State.postAt; split <;> simp
@[simp] theorem State.postAt_port_inFlight (p : Port) (b : NoticeBody) (x : Option Position) (q : Port) :
    ((s.postAt p b x).port q).inFlight = (s.port q).inFlight := by
  unfold State.postAt; split <;> simp
@[simp] theorem State.postAt_port_ready (p : Port) (b : NoticeBody) (x : Option Position) (q : Port) :
    ((s.postAt p b x).port q).ready = (s.port q).ready := by
  unfold State.postAt; split <;> simp
@[simp] theorem State.postAt_port_session (p : Port) (b : NoticeBody) (x : Option Position) (q : Port) :
    ((s.postAt p b x).port q).session = (s.port q).session := by
  unfold State.postAt; split <;> simp
@[simp] theorem State.postAt_port_takeAt (p : Port) (b : NoticeBody) (x : Option Position) (q : Port) :
    ((s.postAt p b x).port q).takeAt = (s.port q).takeAt := by
  unfold State.postAt; split <;> simp
@[simp] theorem State.postAt_port_dataOut (p : Port) (b : NoticeBody) (x : Option Position) (q : Port) :
    ((s.postAt p b x).port q).dataOut = (s.port q).dataOut := by
  unfold State.postAt; split <;> simp

/-! ### `State.post` -/

@[simp] theorem State.post_rstLow (p : Port) (b : NoticeBody) :
    (s.post p b).rstLow = s.rstLow := by simp [State.post]
@[simp] theorem State.post_houseTime (p : Port) (b : NoticeBody) :
    (s.post p b).houseTime = s.houseTime := by simp [State.post]
@[simp] theorem State.post_clearing (p : Port) (b : NoticeBody) :
    (s.post p b).clearing = s.clearing := by simp [State.post]
@[simp] theorem State.post_engine (p : Port) (b : NoticeBody) :
    (s.post p b).engine = s.engine := by simp [State.post]
@[simp] theorem State.post_transport (p : Port) (b : NoticeBody) :
    (s.post p b).transport = s.transport := by simp [State.post]
@[simp] theorem State.post_gen (p : Port) (b : NoticeBody) :
    (s.post p b).gen = s.gen := by simp [State.post]
@[simp] theorem State.post_queue (p : Port) (b : NoticeBody) :
    (s.post p b).queue = s.queue := by simp [State.post]
@[simp] theorem State.post_lastBeat (p : Port) (b : NoticeBody) :
    (s.post p b).lastBeat = s.lastBeat := by simp [State.post]
@[simp] theorem State.post_arbiter (p : Port) (b : NoticeBody) :
    (s.post p b).arbiter = s.arbiter := by simp [State.post]
@[simp] theorem State.post_taps (p : Port) (b : NoticeBody) :
    (s.post p b).taps = s.taps := by simp [State.post]
@[simp] theorem State.post_cues (p : Port) (b : NoticeBody) :
    (s.post p b).cues = s.cues := by simp [State.post]
@[simp] theorem State.post_allocations (p : Port) (b : NoticeBody) :
    (s.post p b).allocations = s.allocations := by simp [State.post]
@[simp] theorem State.post_patternMem (p : Port) (b : NoticeBody) :
    (s.post p b).patternMem = s.patternMem := by simp [State.post]
@[simp] theorem State.post_writeSettings (p : Port) (b : NoticeBody) :
    (s.post p b).writeSettings = s.writeSettings := by simp [State.post]
@[simp] theorem State.post_players (p : Port) (b : NoticeBody) :
    (s.post p b).players = s.players := by simp [State.post]
@[simp] theorem State.post_laneClaims (p : Port) (b : NoticeBody) :
    (s.post p b).laneClaims = s.laneClaims := by simp [State.post]
@[simp] theorem State.post_playerClaims (p : Port) (b : NoticeBody) :
    (s.post p b).playerClaims = s.playerClaims := by simp [State.post]
@[simp] theorem State.post_lanes (p : Port) (b : NoticeBody) :
    (s.post p b).lanes = s.lanes := by simp [State.post]
@[simp] theorem State.post_acceptedFrames (p : Port) (b : NoticeBody) :
    (s.post p b).acceptedFrames = s.acceptedFrames := by simp [State.post]
@[simp] theorem State.post_choices (p : Port) (b : NoticeBody) :
    (s.post p b).choices = s.choices := by simp [State.post]
@[simp] theorem State.post_pending (p : Port) (b : NoticeBody) :
    (s.post p b).pending = s.pending := by simp [State.post]
@[simp] theorem State.post_writeSetting (p : Port) (b : NoticeBody) (q : Port) :
    (s.post p b).writeSetting q = s.writeSetting q := by simp [State.post]
@[simp] theorem State.post_allocation (p : Port) (b : NoticeBody) (q : Port) :
    (s.post p b).allocation q = s.allocation q := by simp [State.post]
@[simp] theorem State.post_tap (p : Port) (b : NoticeBody) (q : Fin 4) :
    (s.post p b).tap q = s.tap q := by simp [State.post]
@[simp] theorem State.post_player (p : Port) (b : NoticeBody) (q : Fin 4) :
    (s.post p b).player q = s.player q := by simp [State.post]
@[simp] theorem State.post_lane (p : Port) (b : NoticeBody) (q : Fin 16) :
    (s.post p b).lane q = s.lane q := by simp [State.post]
@[simp] theorem State.post_laneHolder (p : Port) (b : NoticeBody) (q : Fin 16) :
    (s.post p b).laneHolder q = s.laneHolder q := by simp [State.post]
@[simp] theorem State.post_playerHolder (p : Port) (b : NoticeBody) (q : Fin 4) :
    (s.post p b).playerHolder q = s.playerHolder q := by simp [State.post]
@[simp] theorem State.post_cueCount (p : Port) (b : NoticeBody) (q : Port) :
    (s.post p b).cueCount q = s.cueCount q := by simp [State.post]
@[simp] theorem State.post_leads (p : Port) (b : NoticeBody) (q : Port) :
    (s.post p b).leads q = s.leads q := by simp [State.post]
@[simp] theorem State.post_bids (p : Port) (b : NoticeBody) (q : Port) :
    (s.post p b).bids q = s.bids q := by simp [State.post]
@[simp] theorem State.post_port_isOpen (p : Port) (b : NoticeBody) (q : Port) :
    ((s.post p b).port q).isOpen = (s.port q).isOpen := by simp [State.post]
@[simp] theorem State.post_port_eligible (p : Port) (b : NoticeBody) (q : Port) :
    ((s.post p b).port q).eligible = (s.port q).eligible := by simp [State.post]
@[simp] theorem State.post_port_rank (p : Port) (b : NoticeBody) (q : Port) :
    ((s.post p b).port q).rank = (s.port q).rank := by simp [State.post]
@[simp] theorem State.post_port_silenceLimit (p : Port) (b : NoticeBody) (q : Port) :
    ((s.post p b).port q).silenceLimit = (s.port q).silenceLimit := by simp [State.post]
@[simp] theorem State.post_port_attention (p : Port) (b : NoticeBody) (q : Port) :
    ((s.post p b).port q).attention = (s.port q).attention := by simp [State.post]
@[simp] theorem State.post_port_reply (p : Port) (b : NoticeBody) (q : Port) :
    ((s.post p b).port q).reply = (s.port q).reply := by simp [State.post]
@[simp] theorem State.post_port_inFlight (p : Port) (b : NoticeBody) (q : Port) :
    ((s.post p b).port q).inFlight = (s.port q).inFlight := by simp [State.post]
@[simp] theorem State.post_port_ready (p : Port) (b : NoticeBody) (q : Port) :
    ((s.post p b).port q).ready = (s.port q).ready := by simp [State.post]
@[simp] theorem State.post_port_session (p : Port) (b : NoticeBody) (q : Port) :
    ((s.post p b).port q).session = (s.port q).session := by simp [State.post]
@[simp] theorem State.post_port_takeAt (p : Port) (b : NoticeBody) (q : Port) :
    ((s.post p b).port q).takeAt = (s.port q).takeAt := by simp [State.post]
@[simp] theorem State.post_port_dataOut (p : Port) (b : NoticeBody) (q : Port) :
    ((s.post p b).port q).dataOut = (s.port q).dataOut := by simp [State.post]

/-! ### `State.postAll` -/

@[simp] theorem State.postAll_rstLow (b : NoticeBody) :
    (s.postAll b).rstLow = s.rstLow := by simp [State.postAll, Port.all]
@[simp] theorem State.postAll_houseTime (b : NoticeBody) :
    (s.postAll b).houseTime = s.houseTime := by simp [State.postAll, Port.all]
@[simp] theorem State.postAll_clearing (b : NoticeBody) :
    (s.postAll b).clearing = s.clearing := by simp [State.postAll, Port.all]
@[simp] theorem State.postAll_engine (b : NoticeBody) :
    (s.postAll b).engine = s.engine := by simp [State.postAll, Port.all]
@[simp] theorem State.postAll_transport (b : NoticeBody) :
    (s.postAll b).transport = s.transport := by simp [State.postAll, Port.all]
@[simp] theorem State.postAll_gen (b : NoticeBody) :
    (s.postAll b).gen = s.gen := by simp [State.postAll, Port.all]
@[simp] theorem State.postAll_queue (b : NoticeBody) :
    (s.postAll b).queue = s.queue := by simp [State.postAll, Port.all]
@[simp] theorem State.postAll_lastBeat (b : NoticeBody) :
    (s.postAll b).lastBeat = s.lastBeat := by simp [State.postAll, Port.all]
@[simp] theorem State.postAll_arbiter (b : NoticeBody) :
    (s.postAll b).arbiter = s.arbiter := by simp [State.postAll, Port.all]
@[simp] theorem State.postAll_taps (b : NoticeBody) :
    (s.postAll b).taps = s.taps := by simp [State.postAll, Port.all]
@[simp] theorem State.postAll_cues (b : NoticeBody) :
    (s.postAll b).cues = s.cues := by simp [State.postAll, Port.all]
@[simp] theorem State.postAll_allocations (b : NoticeBody) :
    (s.postAll b).allocations = s.allocations := by simp [State.postAll, Port.all]
@[simp] theorem State.postAll_patternMem (b : NoticeBody) :
    (s.postAll b).patternMem = s.patternMem := by simp [State.postAll, Port.all]
@[simp] theorem State.postAll_writeSettings (b : NoticeBody) :
    (s.postAll b).writeSettings = s.writeSettings := by simp [State.postAll, Port.all]
@[simp] theorem State.postAll_players (b : NoticeBody) :
    (s.postAll b).players = s.players := by simp [State.postAll, Port.all]
@[simp] theorem State.postAll_laneClaims (b : NoticeBody) :
    (s.postAll b).laneClaims = s.laneClaims := by simp [State.postAll, Port.all]
@[simp] theorem State.postAll_playerClaims (b : NoticeBody) :
    (s.postAll b).playerClaims = s.playerClaims := by simp [State.postAll, Port.all]
@[simp] theorem State.postAll_lanes (b : NoticeBody) :
    (s.postAll b).lanes = s.lanes := by simp [State.postAll, Port.all]
@[simp] theorem State.postAll_acceptedFrames (b : NoticeBody) :
    (s.postAll b).acceptedFrames = s.acceptedFrames := by simp [State.postAll, Port.all]
@[simp] theorem State.postAll_choices (b : NoticeBody) :
    (s.postAll b).choices = s.choices := by simp [State.postAll, Port.all]
@[simp] theorem State.postAll_pending (b : NoticeBody) :
    (s.postAll b).pending = s.pending := by simp [State.postAll, Port.all]
@[simp] theorem State.postAll_writeSetting (b : NoticeBody) (q : Port) :
    (s.postAll b).writeSetting q = s.writeSetting q := by simp [State.postAll, Port.all]
@[simp] theorem State.postAll_allocation (b : NoticeBody) (q : Port) :
    (s.postAll b).allocation q = s.allocation q := by simp [State.postAll, Port.all]
@[simp] theorem State.postAll_tap (b : NoticeBody) (q : Fin 4) :
    (s.postAll b).tap q = s.tap q := by simp [State.postAll, Port.all]
@[simp] theorem State.postAll_player (b : NoticeBody) (q : Fin 4) :
    (s.postAll b).player q = s.player q := by simp [State.postAll, Port.all]
@[simp] theorem State.postAll_lane (b : NoticeBody) (q : Fin 16) :
    (s.postAll b).lane q = s.lane q := by simp [State.postAll, Port.all]
@[simp] theorem State.postAll_laneHolder (b : NoticeBody) (q : Fin 16) :
    (s.postAll b).laneHolder q = s.laneHolder q := by simp [State.postAll, Port.all]
@[simp] theorem State.postAll_playerHolder (b : NoticeBody) (q : Fin 4) :
    (s.postAll b).playerHolder q = s.playerHolder q := by simp [State.postAll, Port.all]
@[simp] theorem State.postAll_cueCount (b : NoticeBody) (q : Port) :
    (s.postAll b).cueCount q = s.cueCount q := by simp [State.postAll, Port.all]
@[simp] theorem State.postAll_leads (b : NoticeBody) (q : Port) :
    (s.postAll b).leads q = s.leads q := by simp [State.postAll, Port.all]
@[simp] theorem State.postAll_bids (b : NoticeBody) (q : Port) :
    (s.postAll b).bids q = s.bids q := by simp [State.postAll, Port.all]
@[simp] theorem State.postAll_port_isOpen (b : NoticeBody) (q : Port) :
    ((s.postAll b).port q).isOpen = (s.port q).isOpen := by simp [State.postAll, Port.all]
@[simp] theorem State.postAll_port_eligible (b : NoticeBody) (q : Port) :
    ((s.postAll b).port q).eligible = (s.port q).eligible := by simp [State.postAll, Port.all]
@[simp] theorem State.postAll_port_rank (b : NoticeBody) (q : Port) :
    ((s.postAll b).port q).rank = (s.port q).rank := by simp [State.postAll, Port.all]
@[simp] theorem State.postAll_port_silenceLimit (b : NoticeBody) (q : Port) :
    ((s.postAll b).port q).silenceLimit = (s.port q).silenceLimit := by simp [State.postAll, Port.all]
@[simp] theorem State.postAll_port_attention (b : NoticeBody) (q : Port) :
    ((s.postAll b).port q).attention = (s.port q).attention := by simp [State.postAll, Port.all]
@[simp] theorem State.postAll_port_reply (b : NoticeBody) (q : Port) :
    ((s.postAll b).port q).reply = (s.port q).reply := by simp [State.postAll, Port.all]
@[simp] theorem State.postAll_port_inFlight (b : NoticeBody) (q : Port) :
    ((s.postAll b).port q).inFlight = (s.port q).inFlight := by simp [State.postAll, Port.all]
@[simp] theorem State.postAll_port_ready (b : NoticeBody) (q : Port) :
    ((s.postAll b).port q).ready = (s.port q).ready := by simp [State.postAll, Port.all]
@[simp] theorem State.postAll_port_session (b : NoticeBody) (q : Port) :
    ((s.postAll b).port q).session = (s.port q).session := by simp [State.postAll, Port.all]
@[simp] theorem State.postAll_port_takeAt (b : NoticeBody) (q : Port) :
    ((s.postAll b).port q).takeAt = (s.port q).takeAt := by simp [State.postAll, Port.all]
@[simp] theorem State.postAll_port_dataOut (b : NoticeBody) (q : Port) :
    ((s.postAll b).port q).dataOut = (s.port q).dataOut := by simp [State.postAll, Port.all]

/-! ### The queue a notice goes to -/

/-- A queue that is not full takes the notice at its end (R177). -/
theorem NoticeQueue.append_queue (q : NoticeQueue) (n : Notice) :
    (q.append n).queue = if q.queue.length < 16 then q.queue ++ [n] else q.queue := by
  unfold NoticeQueue.append Config.noticeDepth
  split <;> rfl

/-- A full queue sets the overflowed flag and stays as it is (R177). -/
theorem NoticeQueue.append_overflowed (q : NoticeQueue) (n : Notice) :
    (q.append n).overflowed = if q.queue.length < 16 then q.overflowed else true := by
  unfold NoticeQueue.append Config.noticeDepth
  split <;> rfl

/-- The settings of a queue stand when a notice is appended (R178). -/
theorem NoticeQueue.append_settings (q : NoticeQueue) (n : Notice) :
    (q.append n).enabled = q.enabled ∧ (q.append n).timing = q.timing := by
  unfold NoticeQueue.append
  split <;> exact ⟨rfl, rfl⟩

/-- Every queue after a notice is given: that of an open port takes it, every other stands (R176). -/
theorem State.give_noticeQueue (p q : Port) (n : Notice) :
    (s.give p n).noticeQueue q =
      if p = q ∧ (s.port p).isOpen then (s.noticeQueue p).append n else s.noticeQueue q := by
  unfold State.give
  by_cases h : (s.port p).isOpen = true
  · simp [h, State.setNoticeQueue_noticeQueue]
  · simp [h]

end Sys2Proof.Machine
end

