-- ==== Sys2Proof/Tests/Slice0.lean ====
section
/-! SUPPORT. Tests of one step each on small states: ill-formed terms, frames written out from section 9.6,
figures from the spec's worked cases, and, for every statement that has hypotheses, a state and operands
that meet them. Expected values stand in the spec or are worked out by hand from its rules. -/

open Sys2Proof Sys2Proof.Machine

namespace Sys2Proof.Tests

/-! ### Small states -/

/-- Port A is open. -/
def opened : State := State.reset.setPort .a { DeskPort.reset with isOpen := true }

/-- Port A is open and leads, and the clear has ended. -/
def led : State := { opened with clearing := false, arbiter := ⟨.port .a, none, none, none⟩ }

/-- Port B is open too, and its plain bid of rank `rank` with a wait of 5 s is pending. -/
def bidden (rank : Nat) : State :=
  { led.setPort .b { DeskPort.reset with isOpen := true, rank := rank } with
    arbiter := ⟨.port .a, some ⟨.b, rank, .plain, 0, 0, 0, 50⟩, some 5000000, some 2000000⟩ }

/-- The transport is in state `st`, at bar 3, beat 2, pulse 5. -/
def inState (st : TransportState) : State :=
  { led with
    transport := ⟨st, 20, some 1000000, none, none⟩
    gen := ⟨⟨3, 2, 5⟩, 0, 0⟩ }

/-- A record of pulse number `n` at `t`, with nothing in it. -/
def record (n : PulseNumber) (t : Time) : PulseRecord :=
  ⟨n, t, ⟨1, 1, 0⟩, 341333333, ⟨true, true, false, false⟩, [], [], [], false⟩

/-- Port A holds every lane and player. -/
def holding : State :=
  { led with
    laneClaims := Vector.replicate 16 (some .a), playerClaims := Vector.replicate 4 (some .a) }

/-- The state after an outcome. -/
def after (o : Host.Outcome State Fault Refusal) : State :=
  match o with
  | .next t => t
  | _ => State.reset

/-- The status of port `p`'s current reply after an outcome. -/
def statusOf (p : Port) (o : Host.Outcome State Fault Refusal) : Option Status :=
  match o with
  | .next t => (t.port p).reply.map Reply.status
  | _ => none

/-- The payload of port A's current reply after an outcome. -/
def payloadOf (o : Host.Outcome State Fault Refusal) : List Byte :=
  match o with
  | .next t => match (t.port .a).reply with
    | some r => r.payload
    | none => []
  | _ => []

/-- Any command of the open port A can be taken. -/
theorem opened_can (i : Instr) : opened.canCommand .a i := ⟨⟨rfl, Or.inl rfl⟩, rfl⟩

/-- Any command of port A as the leader can be taken. -/
theorem led_can (i : Instr) : led.canLead .a i := ⟨⟨⟨rfl, Or.inl rfl⟩, rfl⟩, rfl⟩

/-- Any command of port A, which holds every lane and player, can be taken. -/
theorem holding_can (i : Instr) : holding.canCommand .a i := ⟨⟨rfl, Or.inl rfl⟩, rfl⟩

/-! ### Ill-formed terms -/

theorem test_fetch_code_is_no_command_frame : (Instr.commandFrame .a 0x80 [0]).wellFormed = false := by
  decide
theorem test_spelled_bytes_are_no_unknown_command :
    (Instr.unknownCommand .a 0x01 [0]).wellFormed = false := by decide
theorem test_fetch_code_is_no_unknown_command :
    (Instr.unknownCommand .a 0x80 []).wellFormed = false := by decide
set_option maxRecDepth 4000 in
theorem test_levels_past_a_frame_are_refused :
    (Instr.writeSteps .a 0 0 64 0 (List.replicate 126 0)).wellFormed = false := by decide
set_option maxRecDepth 4000 in
theorem test_longest_write_is_well_formed :
    (Instr.writeSteps .a 0 0 64 0 (List.replicate 125 0)).wellFormed = true := by decide

/-! ### Frames written out byte by byte (sections 9.6 and 9.7) -/

theorem test_frame_set_profile :
    decodeFrame .b 0x03 [4, 1, 3, 20, 0] = .setProfile .b 1 3 20 0 := by decide
/-- 12600 is 0x3138. -/
theorem test_frame_set_tempo : decodeFrame .a 0x10 [3, 0x31, 0x38, 16] = .setTempo .a 12600 16 := by
  decide
/-- -2 µs in two's complement. -/
theorem test_frame_nudge :
    decodeFrame .a 0x11 [4, 0xFF, 0xFF, 0xFF, 0xFE] = .nudge .a (-2) := by decide
/-- 1,000,000 is 0xF4240. -/
theorem test_frame_start :
    decodeFrame .c 0x13 [8, 0, 0, 0, 0, 0, 0x0F, 0x42, 0x40] = .start .c 1000000 := by decide
theorem test_frame_locate : decodeFrame .a 0x15 [3, 0x01, 0x02, 4] = .locate .a 258 4 := by decide
theorem test_frame_bid :
    decodeFrame .d 0x20 [14, 1, 0, 50, 0x2E, 0xE0, 0, 0, 0, 0, 0, 0, 1, 0, 8] =
      .bid .d 1 50 12000 256 8 := by decide
/-- 250,000 is 0x3D090, and -250,000 is 0xFFFC2F70. -/
theorem test_frame_set_tap :
    decodeFrame .a 0x30 [6, 3, 24, 0xFF, 0xFC, 0x2F, 0x70] = .setTap .a 3 24 (-250000) := by decide
/-- A MUTE of lanes 0 and 9 at 5.1.0: lane n is bit n, and the lane set is the first two of the six
argument bytes. -/
theorem test_frame_schedule_cue :
    decodeFrame .a 0x39 [16, 0, 0, 0, 5, 1, 0, 0, 0x02, 0x01, 0, 0, 0, 0, 0x12, 0x34, 1] =
      .scheduleCue .a ⟨0, 0, 5, 1, 0, 0, 0x020100000000, 0x1234, 1⟩ := by decide
theorem test_frame_cancel_cue :
    decodeFrame .a 0x3A [3, 127, 0x12, 0x34] = .cancelCue .a 127 0x1234 := by decide
theorem test_frame_write_steps :
    decodeFrame .a 0x40 [8, 5, 0, 2, 1, 0xC0, 0, 0, 0x03] =
      .writeSteps .a 5 0 2 1 [0xC000, 0x0003] := by decide
theorem test_frame_half_load : decodeFrame .a 0x49 [3, 2, 127, 31] = .halfLoad .a 2 127 31 := by decide
/-- GATE, divisor 24, phase 1, LAUNCH, widths 5,000, 10,000, 20,000 and 40,000, player 3, plane 7,
offset -1, ACTIVE_LOW, on lane 15. -/
theorem test_frame_set_lane :
    decodeFrame .a 0x54
      [30, 15, 2, 0, 24, 0, 1, 1, 0, 0, 0x13, 0x88, 0, 0, 0x27, 0x10, 0, 0, 0x4E, 0x20,
        0, 0, 0x9C, 0x40, 3, 7, 0xFF, 0xFF, 0xFF, 0xFF, 1] =
      .setLane .a 15 ⟨2, 24, 1, 1, 5000, 10000, 20000, 40000, 3, 7, -1, 1⟩ := by decide
theorem test_frame_set_notices :
    decodeFrame .a 0x60 [3, 0x0F, 0xFE, 1] = .setNotices .a 0x0FFE 1 := by decide
/-- Bytes beyond the declared length are ignored (R167). -/
theorem test_frame_bytes_beyond_are_ignored :
    decodeFrame .a 0x18 [0, 1, 2] = .readPosition .a := by decide
theorem test_frame_too_short_spells_nothing :
    decodeFrame .a 0x10 [3, 0x31, 0x38] = .unknownCommand .a 0x10 [3, 0x31, 0x38] := by decide
/-- The frame of a SET_TEMPO, byte by byte. -/
theorem test_frame_bytes_set_tempo :
    frameBytes (.setTempo .a 12600 16) = [0x10, 3, 0x31, 0x38, 16] := by decide

/-! ### Figures of the spec -/

/-- The worked conversions of section 1.2. -/
theorem test_worked_conversions :
    [2000, 12000, 12600, 17400, 30000].map intervalOf =
        [2048000000, 341333333, 325079365, 235402299, 136533333]
      ∧ [2048000000, 341333333, 325079365, 235402299, 136533333].map tempoOf =
        [2000, 12000, 12600, 17400, 30000]
      ∧ [2048000000, 341333333, 325079365, 235402299, 136533333].map beatPeriod =
        [3000000, 500000, 476190, 344828, 200000] := by decide

/-- The glide of section 1.5 and its first step. -/
theorem test_worked_glide :
    (after (exec (.setTempo .a 12600 16) led)).engine =
        ⟨341333333, 325079365, -10582, 1536, 0, 4, none⟩
      ∧ (after (exec (.setTempo .a 12600 16) led)).engine.afterRecord.interval = 341322751 := by
  decide
theorem test_set_tempo_is_clamped :
    payloadOf (exec (.setTempo .a 35000 65) led) = [0x75, 0x30, 64]
      ∧ payloadOf (exec (.setTempo .a 1500 64) led) = [0x07, 0xD0, 64] := by decide

/-- The slips of section 1.6: +130,000 µs and its first step, and the clamp of +300,000 µs. -/
theorem test_worked_slip :
    (after (exec (.nudge .a 130000) led)).engine.slip = 8519680000
      ∧ (after (exec (.nudge .a 130000) led)).engine.afterRecord.slip = 8509013334
      ∧ (after (exec (.nudge .a 300000) led)).engine.slip = 16383999984
      ∧ payloadOf (exec (.nudge .a 300000) led) = toBytes 4 249999 := by decide

/-- The launch times of section 2.8. -/
theorem test_worked_launch_times :
    [0, 39000000, 40020000, 41000000, 120000000].map (fun t =>
        (after (exec (.start .a t) { led with houseTime := 40000000 })).transport.launchTime) =
      [some 40020000, some 40020000, some 40020000, some 41000000, some 100000000] := by decide

/-- A launch at 1,000,000 makes pulse 0 there and leaves N at 65,877,333,333 (section 1.4). -/
theorem test_worked_launch :
    let t := after (exec .launchStep
      { led with houseTime := 980000, transport := ⟨.armed, 20, some 1000000, none, none⟩ })
    t.queue.map (fun r => (r.pulse, r.refTime)) = [(0, 1000000)]
      ∧ t.gen.n = 65877333333 ∧ t.gen.position = ⟨1, 1, 1⟩ ∧ t.transport.state = .running := by
  decide

/-- Four edges of the drum machine of section 5.5, and the fifth, at 22,000,200. -/
theorem test_worked_tap :
    let tap : Tap := { Tap.reset with debounceRef := some 21500000 }.withRing
      [20000000, 20499800, 21000100, 21500000]
    let s : State := { State.reset.setTap 0 tap with houseTime := 22000200 }
    let t := (after (exec (.tapEdge 0) s)).tap 0
    tap.measuredInterval = some 341333333 ∧ tap.measuredTempo = some 12000
      ∧ t.measuredInterval = some 341367467 ∧ t.measuredTempo = some 11999
      ∧ t.deadline = some 24000400 := by decide

/-- The BLOCK_FILL of section 7.3: steps 12 and 14 of row 5, planes 1 and 4. -/
theorem test_worked_block_fill :
    let w : WriteSettings := ⟨.held, 0b10010, #v[3, 2, 0, 0, 1, 0, 0, 0]⟩
    let s := led.setWriteSetting .a w
    (after (exec (.blockFill .a 5 13 0b101 1) s)).patternMem =
        [(cellAddress 5 12 1, 2), (cellAddress 5 12 4, 1), (cellAddress 5 14 1, 2),
          (cellAddress 5 14 4, 1)]
      ∧ payloadOf (exec (.blockFill .a 5 13 0b101 1) s) = [5, 12, 2, 12, 14, 0b10010] := by decide

/-- The WRITE_STEPS of section 7.3 that is cut at step 63. -/
theorem test_worked_write_is_cut :
    let w : WriteSettings := ⟨.held, 0b10010, Vector.replicate 8 0⟩
    let s := led.setWriteSetting .a w
    payloadOf (exec (.writeSteps .a 5 60 8 1 (List.replicate 8 0x2040)) s) = [5, 60, 4, 0b10010]
      ∧ levelAt (after (exec (.writeSteps .a 5 60 8 1 (List.replicate 8 0x2040)) s)).patternMem
          (cellAddress 5 63 4) = 1 := by decide

/-- A claim past the last lane is refused, one up to it is taken (R143). -/
theorem test_claim_range :
    statusOf .a (exec (.claimLanes .a 15 2) led) = some .range
      ∧ (after (exec (.claimLanes .a 15 1) led)).laneHolder 15 = some .a := by decide

/-- A notice posted to a queue of 16 is discarded and sets the overflowed flag (R177). -/
theorem test_notice_overflow :
    let full : NoticeQueue :=
      { NoticeQueue.reset with queue := List.replicate 16 ⟨.bar, 0, none⟩ }
    let t := (opened.setNoticeQueue .a full).postAt .a (.overrun 1) none
    (t.noticeQueue .a).queue.length = 16 ∧ (t.noticeQueue .a).overflowed = true := by decide

/-! ### Witnesses: for each statement with hypotheses, a state and operands that meet them, clause by clause -/

/-- The part with RST held low. -/
def held : State := { State.reset with rstLow := true }

/-- Port A leads and a START of port A is in flight there. -/
def busyPort : State :=
  led.setPort .a { led.port .a with
    ready := false, inFlight := some ⟨0x13, 8 :: List.replicate 8 0⟩, takeAt := some 5 }

/-- Any command of port A as the leader can be taken in any transport state. -/
theorem inState_can (st : TransportState) (i : Instr) : (inState st).canLead .a i :=
  ⟨⟨⟨rfl, Or.inl rfl⟩, rfl⟩, rfl⟩

/-- Any command of port A as the leader can be taken while a bid is pending. -/
theorem bidden_can (rank : Nat) (i : Instr) : (bidden rank).canLead .a i :=
  ⟨⟨⟨rfl, Or.inl rfl⟩, rfl⟩, rfl⟩

/-- Any command of port B can be taken while its bid is pending. -/
theorem bidder_can (rank : Nat) (i : Instr) : (bidden rank).canCommand .b i :=
  ⟨⟨rfl, Or.inl rfl⟩, rfl⟩

theorem witness_StepRunsFrontCommand :
    ({ State.reset with pending := [.reset] }).pending = .reset :: [] := rfl

theorem witness_IdleStepTakesDueEventOrTicks :
    (held.pending = [] ∧ held.rstLow = true)
      ∧ (State.reset.pending = [] ∧ State.reset.rstLow = false ∧ State.reset.dueEvents = [])
      ∧ ({ State.reset with houseTime := 4000 }).dueEvents = [.patternClearEnd] := by decide

theorem witness_ResetSetsPowerOnValuesAndHolds :
    held.rstLow = true ∧ State.reset.rstLow = false
      ∧ (Instr.emptyFrame .a).port?.isSome = true ∧ held.pending = [] := by decide

theorem witness_FramesAreAcceptedFetchedOrIgnored :
    led.rstLow = false ∧ (0x13 : Byte) ≠ 0x80 ∧ (led.port .a).ready = true
      ∧ busyPort.rstLow = false ∧ (busyPort.port .a).ready = false
      ∧ (led.port .a).reply = none
      ∧ ((led.answered .a 0x25 (.bare .ok)).port .a).reply = some ⟨.ok, 0x25, []⟩
      ∧ (let s := led.answered .a 0x25 (.bare .ok)
        ((after (exec (.fetchFrame .a ⟨5, false⟩) s)).port .a).dataOut = [1, 0x25, 0, 0, 0]
          ∧ ((after (exec (.fetchFrame .a ⟨5, true⟩) s)).port .a).dataOut = [0, 0, 0, 0, 0]) := by
  decide

theorem witness_UnspelledFrameIsAnswered :
    (opened.canTake .a (.unknownCommand .a 0x10 []) ∧ State.reset.canTake .a (.unknownCommand .a 0x10 [0]))
      ∧ (decodeFrame .a 0x10 [] = .unknownCommand .a 0x10 []
        ∧ statusOf .a (exec (.unknownCommand .a 0x10 []) opened) = some .badFrame)
      ∧ (decodeFrame .a 0x99 [0] = .unknownCommand .a 0x99 [0]
        ∧ statusOf .a (exec (.unknownCommand .a 0x99 [0]) opened) = some .unknown)
      ∧ (decodeFrame .a 0x10 [2, 0, 0] = .unknownCommand .a 0x10 [2, 0, 0]
        ∧ statusOf .a (exec (.unknownCommand .a 0x10 [2, 0, 0]) State.reset) = some .notOpen
        ∧ statusOf .a (exec (.unknownCommand .a 0x10 [2, 0, 0]) opened) = some .badFrame) :=
  ⟨⟨(opened_can _).1, rfl, Or.inl rfl⟩, by decide⟩

theorem witness_ClosedPortIsAnsweredNotOpen :
    State.reset.canTake .a (.keep .a) ∧ (State.reset.port .a).isOpen = false
      ∧ commandPayload (.keep .a) = some (0x25, []) ∧ (Instr.keep .a).port? = some .a
      ∧ statusOf .a (exec (.keep .a) State.reset) = some .notOpen
      ∧ commandPayload (.readTap .a 0) = some (0x32, [0])
      ∧ statusOf .a (exec (.readTap .a 0) State.reset) = some .ok :=
  ⟨⟨rfl, Or.inl rfl⟩, by decide⟩

theorem witness_NonLeaderIsRefused :
    opened.canCommand .a (.keep .a) ∧ opened.arbiter.leader ≠ .port .a
      ∧ commandPayload (.keep .a) = some (0x25, []) ∧ (Instr.keep .a).port? = some .a
      ∧ opened.canCommand .a (.scheduleCue .a ⟨0, 0, 0, 0, 0, 6, 0, 0, 0⟩) :=
  ⟨opened_can _, by decide, rfl, rfl, opened_can _⟩

theorem witness_PatternCommandsAreBusyDuringClear :
    opened.canCommand .a (.readPlayer .a 9 9) ∧ opened.clearing = true
      ∧ commandPayload (.readPlayer .a 9 9) = some (0x4B, [9, 9])
      ∧ statusOf .a (exec (.readPlayer .a 9 9) opened) = some .busy :=
  ⟨opened_can _, by decide⟩

theorem witness_OpenAndCloseAPort :
    State.reset.canTake .a (.openPort .a) ∧ opened.canTake .a (.openPort .a)
      ∧ (led.canCommand .a (.closePort .a) ∧ led.SlotLegal ∧ led.arbiter.slot = none
        ∧ led.arbiter.leader = .port .a)
      ∧ (bidden 1).SlotLegal ∧ (bidden 1).canCommand .a (.closePort .a)
      ∧ (bidden 1).canCommand .b (.closePort .b) ∧ (bidden 1).arbiter.leader ≠ .port .b
      ∧ ((after (exec (.closePort .a) (bidden 1))).noticeQueue .b).queue =
        [⟨.leadGranted .closed .plain 0 0 none false, 0, some ⟨1, 1, 0⟩⟩]
      ∧ ((after (exec (.closePort .a) (led.setPort .b { DeskPort.reset with isOpen := true }))).noticeQueue
          .b).queue = [⟨.freewheel .closed (.port .a), 0, some ⟨1, 1, 0⟩⟩] := by
  refine ⟨⟨rfl, Or.inl rfl⟩, (opened_can _).1, ⟨(led_can _).1, ?_, rfl, rfl⟩,
    ?_, (bidden_can 1 _).1, bidder_can 1 _, by decide⟩
  · intro b h
    cases h
  · intro b h
    cases h
    exact ⟨⟨.a, rfl, by decide⟩, rfl, rfl, rfl⟩

theorem witness_ProfileIsTakenLockedAndRead :
    led.canCommand .a (.setProfile .a 1 1 0 0)
      ∧ statusOf .a (exec (.setProfile .a 2 0 0 0) led) = some .range
      ∧ statusOf .a (exec (.setProfile .a 1 4 0 0) led) = some .range
      ∧ statusOf .a (exec (.setProfile .a 1 1 0 0) led) = some .locked
      ∧ statusOf .a (exec (.setProfile .a 0 0 0 0) led) = some .locked
      ∧ statusOf .a (exec (.setProfile .a 1 0 100 1) led) = some .ok
      ∧ statusOf .a (exec (.setProfile .a 0 3 101 1) opened) = some .clamped :=
  ⟨(led_can _).1, by decide⟩

theorem witness_TempoAndBeatPeriodRoundHalfUp :
    IntervalLegal 136533333 ∧ IntervalLegal 2048000000
      ∧ (((1300000 : Time).toNat : Int) - ((1000000 : Time).toNat : Int)).natAbs < 2 ^ 63
      ∧ phaseDifference (some ⟨0, ⟨1, 1, 0⟩, 1000000⟩) 1300000 341333333 = some (-200000) :=
  ⟨by unfold IntervalLegal; decide, by unfold IntervalLegal; decide, by decide, by decide⟩

/-- An engine at 120.00 BPM with a slip. -/
def slipping (g : Int) : Engine := ⟨341333333, 341333333, 0, 0, g, 4, none⟩

theorem witness_SlipIsSpentTowardZero :
    (slipping 10666666).slipPortion = 10666666 ∧ (slipping 10666667).slipPortion = 10666666
      ∧ (slipping (-10666667)).slipPortion = -10666666
      ∧ ((341333333 / 32 : Nat) : Int) = 10666666 ∧ IntervalLegal (slipping 0).interval :=
  ⟨by decide, by decide, by decide, by decide, by unfold IntervalLegal; decide⟩

theorem witness_SlipAdditionIsClamped :
    ((slipping 0).addSlip 16383999984).2 = false ∧ ((slipping 0).addSlip 16383999985).2 = true
      ∧ led.canLead .a (.nudge .a 1)
      ∧ (after (exec (.nudge .a 0) { led with engine := slipping 16383999985 })).engine.slip = 16383999985
      ∧ ((slipping 0).matchBid (some ⟨0, ⟨1, 1, 0⟩, 0⟩) ⟨.b, 0, .matched, 12000, 250000, 0, 0⟩).2.1 =
        some 250000 :=
  ⟨by decide, by decide, led_can _, by decide⟩

theorem witness_GlideLandsOnItsTarget :
    let e : Engine := ⟨341333333, 325079365, -10582, 1536, 0, 4, none⟩
    e.Legal ∧ 0 < e.glideCount := by
  refine ⟨⟨?_, ?_, ?_, fun _ => Or.inr ⟨?_, ?_⟩, ?_, ?_, ?_, fun m h => by cases h⟩, ?_⟩ <;>
    first | decide | (unfold IntervalLegal; decide)

theorem witness_LeaderCommandsActOnTheEngine :
    led.canLead .a (.setTempo .a 2000 64)
      ∧ statusOf .a (exec (.setTempo .a 2000 64) led) = some .ok
      ∧ statusOf .a (exec (.setTempo .a 1999 0) led) = some .clamped
      ∧ statusOf .a (exec (.nudge .a 0) { led with engine := slipping 16383999985 }) = some .ok
      ∧ statusOf .a (exec (.nudge .a 1) { led with engine := slipping 16383999985 }) = some .clamped
      ∧ statusOf .a (exec (.setMeter .a 16) led) = some .ok
      ∧ statusOf .a (exec (.setMeter .a 17) led) = some .range
      ∧ statusOf .a (exec (.setMeter .a 0) led) = some .range :=
  ⟨led_can _, by decide⟩

theorem witness_PositionAdvancesThroughTheBar :
    (⟨1, 1, 94⟩ : Position).Legal 4 ∧ (⟨1, 3, 95⟩ : Position).Legal 4 ∧ (⟨1, 4, 95⟩ : Position).Legal 4
      ∧ (⟨65535, 4, 95⟩ : Position).Legal 4 ∧ (⟨65535, 4, 95⟩ : Position).advance 4 = ⟨1, 1, 0⟩ := by
  unfold Position.Legal; decide

theorem witness_StartFixesTheLaunchTime :
    (inState .stopped).canLead .a (.start .a 0)
      ∧ (after (exec (.start .a 20000) (inState .stopped))).transport.launchTime = some 20000
      ∧ (after (exec (.start .a 19999) (inState .armed))).transport.launchTime = some 20000
      ∧ statusOf .a (exec (.start .a 60000001) (inState .armed)) = some .clamped
      ∧ statusOf .a (exec (.start .a 0) (inState .running)) = some .already
      ∧ (after (exec (.start .a 0) (inState .stopPending))).transport.state = .running
      ∧ statusOf .a (exec (.start .a 0) (inState .draining)) = some .tooLate :=
  ⟨inState_can _ _, by decide⟩

theorem witness_StopSetsTheStopPoint :
    (inState .running).canLead .a (.stop .a 2)
      ∧ statusOf .a (exec (.stop .a 3) (inState .running)) = some .range
      ∧ statusOf .a (exec (.stop .a 2) (inState .stopped)) = some .already
      ∧ statusOf .a (exec (.stop .a 2) (inState .draining)) = some .already
      ∧ (after (exec (.stop .a 2) (inState .armed))).transport.state = .stopped
      ∧ (after (exec (.stop .a 0) (inState .running))).transport.state = .stopped
      ∧ (after (exec (.stop .a 1) (inState .running))).transport.stopPoint = some ⟨3, 3, 0⟩
      ∧ (after (exec (.stop .a 2) (inState .stopPending))).transport.stopPoint = some ⟨4, 1, 0⟩ :=
  ⟨inState_can _ _, by decide⟩

/-- RUNNING with N at 1,000,000 µs. -/
def running (t : Time) : State :=
  { inState .running with houseTime := t, gen := ⟨⟨3, 2, 5⟩, 7, timeToGrains 1000000⟩ }

/-- A STOP cue of port A at the generator position of `inState`. -/
def stopCue : Cue := ⟨0, .a, 0, .nextBar, ⟨3, 2, 5⟩, .stop, .drop, false, false⟩

theorem witness_StopPointEndsTheRun :
    ({ running 980000 with cues := [stopCue] }).generatorDue = true
      ∧ ({ running 980000 with cues := [stopCue] }).fireCues.stop = true
      ∧ (running 980000).transport.stopPoint ≠ some (running 980000).gen.position
      ∧ (let s := { running 980000 with
          transport := ⟨.stopPending, 20, some 1000000, some ⟨3, 2, 5⟩, none⟩, queue := [record 0 0] }
        s.generatorDue = true ∧ s.transport.stopPoint = some s.gen.position
          ∧ (after (exec .generatorStep s)).transport.state = .draining)
      ∧ ({ inState .armed with houseTime := 980000, cues := [stopCue] }).launchDue = true
      ∧ (let t := after (exec .generatorStep { running 980000 with
            cues := [{ stopCue with id := 1, action := .mute 1 }, stopCue]
            laneClaims := Vector.replicate 16 (some .a)
            notices := Vector.replicate 4 { NoticeQueue.reset with timing := .sound } })
        (t.lane 0).mute = .muted ∧ (t.lane 1).mute = .unmuted
          ∧ (t.noticeQueue .a).queue =
            [⟨.cueFired 1 0 .mute false 1, 980000, some ⟨3, 2, 5⟩⟩,
              ⟨.cueFired 0 0 .stop false 0, 980000, some ⟨3, 2, 5⟩⟩,
              ⟨.transport .stopped, 980000, some ⟨3, 2, 5⟩⟩]) := by decide

theorem witness_RelocationAndHorizonInStoppedAlone :
    (inState .stopped).canLead .a (.locate .a 0 5)
      ∧ statusOf .a (exec (.locate .a 0 5) (inState .stopped)) = some .clamped
      ∧ statusOf .a (exec (.locate .a 1 4) (inState .stopped)) = some .ok
      ∧ statusOf .a (exec (.gridReset .a) (inState .armed)) = some .locked
      ∧ statusOf .a (exec (.setHorizon .a 250) (inState .stopped)) = some .ok
      ∧ statusOf .a (exec (.setHorizon .a 251) (inState .stopped)) = some .clamped
      ∧ statusOf .a (exec (.setHorizon .a 0) (inState .running)) = some .locked
      ∧ ((after (exec (.locate .a 9 1) { inState .stopped with cues := [stopCue] })).noticeQueue .a).queue =
        [⟨.cueDropped 0 0 .stop .relocated ⟨3, 2, 5⟩, 0, some ⟨9, 1, 0⟩⟩]
      ∧ (let early : Lane := { Lane.reset with
          settings := { LaneSettings.reset with mode := .clock, offset := -20000 }, cursor := some .next }
        (after (exec (.setHorizon .a 19) ((inState .stopped).setLane 0 early))).lane 0 =
          { early with settings := { early.settings with offset := -19000 } }) :=
  ⟨inState_can _ _, by decide⟩

theorem witness_SnapshotsReportThePart :
    State.reset.canTake .a (.readPosition .a) ∧ State.reset.canTake .a (.readLeadership .a)
      ∧ State.reset.soundingRecord = none
      ∧ ({ inState .running with queue := [record 0 0] }).soundingRecord = some (record 0 0)
      ∧ led.arbiter.leader = .port .a ∧ (bidden 1).arbiter.slot.isSome = true
      ∧ (payloadOf (exec (.readPosition .a) { inState .running with
          arbiter := Arbiter.reset, queue := [record 0 0] })).getD 8 0 = 0b10011
      ∧ (payloadOf (exec (.readLeadership .a) (bidden 1))).getD 1 0 = 0b11111 :=
  ⟨⟨rfl, Or.inl rfl⟩, ⟨rfl, Or.inl rfl⟩, by decide⟩

theorem witness_LaunchStepMakesTheLaunchRecord :
    let s := { inState .armed with houseTime := 980000 }
    (inState .armed).launchDue = false ∧ s.transport.state = .armed
      ∧ s.transport.launchTime = some 1000000
      ∧ ((1000000 : Time) - BitVec.ofNat 64 (s.transport.horizonMs * 1000)).toNat ≤ s.houseTime.toNat
      ∧ s.transport.stopPoint ≠ some s.gen.position ∧ s.fireCues.stop = false
      ∧ (let off := (after (exec .launchStep s)).lane 0
        off.cursor = none ∧ off.launchRef = s.gen.pulse) := by decide

theorem witness_GeneratorStepMakesTheNextRecord :
    let s := running 980000
    (running 979999).generatorDue = false ∧ s.transport.state = .running
      ∧ (BitVec.ofNat 64 (s.gen.n.toNat / 65536)
        - BitVec.ofNat 64 (s.transport.horizonMs * 1000)).toNat ≤ s.houseTime.toNat
      ∧ s.transport.stopPoint ≠ some s.gen.position ∧ s.fireCues.stop = false
      ∧ (after (exec .generatorStep s)).queue.map (fun r => (r.pulse, r.refTime)) = [(7, 1000000)] := by
  decide

/-- A step that ends a bar of three beats, with a MUTE cue due and another cue beyond the bar. -/
def cued : State :=
  { running 980000 with
    gen := ⟨⟨3, 3, 95⟩, 7, timeToGrains 1000000⟩, engine := { Engine.reset with meter := 3 }
    laneClaims := Vector.replicate 16 (some .a)
    cues := [⟨0, .a, 0, .nextBar, ⟨3, 3, 95⟩, .mute 5, .drop, false, false⟩,
      ⟨1, .a, 0, .nextBar, ⟨3, 4, 0⟩, .mark, .drop, false, false⟩] }

theorem witness_MadeRecordCarriesStepsAndChanges :
    ((if false then cued.launchDue else cued.generatorDue) = true
        ∧ cued.transport.stopPoint ≠ some cued.gen.position ∧ cued.fireCues.stop = false)
      ∧ (let s := { inState .armed with houseTime := 980000 }
        (if true then s.launchDue else s.generatorDue) = true
          ∧ s.transport.stopPoint ≠ some s.gen.position ∧ s.fireCues.stop = false)
      ∧ (95 ≤ cued.gen.position.pulse ∧ cued.recordEngine.meter ≤ cued.gen.position.beat)
      ∧ (let t := after (exec .generatorStep cued)
        t.queue.map PulseRecord.laneChanges = [[⟨0, .muted⟩, ⟨2, .muted⟩]]
          ∧ t.cues.map (fun c => (c.id, c.fire, c.carried)) = [(1, ⟨4, 1, 0⟩, true)])
      ∧ (after (exec .generatorStep
        { cued with gen := ⟨⟨65535, 3, 95⟩, 7, timeToGrains 1000000⟩ })).cues = []
      ∧ (let s := { running 980000 with players := Vector.replicate 4 { Player.reset with
            primed := true, stepLength := 1, cursor := 4, register := [(42, 3)] } }
        (after (exec .generatorStep s)).queue.map (fun r => r.steps.map fun e => (e.player, e.step, e.levels[2])) =
          [[(0, 5, 3), (1, 5, 3), (2, 5, 3), (3, 5, 3)]]) := by decide

theorem witness_MakingPlacesOrPostsItsNotices :
    let crossing := { running 980000 with
      gen := ⟨⟨3, 1, 0⟩, 7, timeToGrains 1000000⟩
      players := Vector.replicate 4 { Player.reset with primed := true, cursor := 31, sourceUpper := 9 }
      playerClaims := #v[some .a, none, none, none]
      notices := Vector.replicate 4 { NoticeQueue.reset with enabled := 0b111111111110 } }
    let sounding := { crossing with
      notices := Vector.replicate 4 { NoticeQueue.reset with enabled := 0b111111111110, timing := .sound } }
    crossing.generatorDue = true ∧ crossing.fireCues.stop = false
      ∧ crossing.transport.stopPoint ≠ some crossing.gen.position
      ∧ (let t := after (exec .generatorStep crossing)
        (t.noticeQueue .a).queue = [⟨.halfFree 0 .lower 32 9, 980000, some ⟨3, 1, 0⟩⟩,
            ⟨.bar, 980000, some ⟨3, 1, 0⟩⟩]
          ∧ t.queue.map PulseRecord.sounds = [[]])
      ∧ (let t := after (exec .generatorStep sounding)
        (t.noticeQueue .a).queue = []
          ∧ t.queue.map PulseRecord.sounds = [[⟨.a, 0, [.halfFree 0 .lower 32 9, .bar]⟩]])
      ∧ ((after (exec .launchStep { inState .armed with houseTime := 980000 })).noticeQueue .a).queue =
        [⟨.transport .running, 980000, some ⟨3, 2, 6⟩⟩] := by decide

theorem witness_QueueEventsComeAtTheirInstants :
    let s := { running 250000 with queue := [record 0 0] }
    let d := { inState .draining with transport := ⟨.draining, 20, some 0, some ⟨3, 2, 5⟩, some 0⟩ }
    after (exec .recordRetires s) = s
      ∧ (after (exec .recordRetires { s with houseTime := 250001 })).queue = []
      ∧ (after (exec .recordRetires { s with houseTime := 250001 })).transport.state = .running
      ∧ (let e := after (exec .recordRetires { d with
            houseTime := 250001, queue := [{ record 0 0 with markers := ⟨true, true, false, true⟩ }] })
        e.queue = [] ∧ e.transport.state = .stopped)
      ∧ (d.transport.state = .draining ∧ d.transport.rLast = some 0)
      ∧ (after (exec .drainingEnd { d with houseTime := 250000 })).transport.state = .draining
      ∧ (after (exec .drainingEnd { d with houseTime := 250001 })).transport.state = .stopped
      ∧ (after (exec .recordSounds { s with
          queue := [{ record 0 250000 with sounds := [⟨.a, 0, [.bar]⟩] }] })).noticeQueue .a =
        { NoticeQueue.reset with queue := [⟨.bar, 250000, some ⟨1, 1, 0⟩⟩] } := by decide

theorem witness_QueueEventsComeAtTheirInstants_entries :
    let full : NoticeQueue := { NoticeQueue.reset with queue := List.replicate 15 ⟨.bar, 0, none⟩ }
    let opened := (running 250000).setPort .b { DeskPort.reset with isOpen := true, session := 4 }
    let s := State.setNoticeQueue { opened with
      queue := [{ record 0 250000 with
        sounds := [⟨.a, 0, [.halfFree 0 .upper 3 4, .bar]⟩, ⟨.b, 4, [.bar]⟩, ⟨.c, 0, [.bar]⟩] }] } .a full
    let t := after (exec .recordSounds s)
    t.noticeQueue .a = { full with
        queue := full.queue ++ [⟨.halfFree 0 .upper 3 4, 250000, some ⟨1, 1, 0⟩⟩], overflowed := true }
      ∧ (t.noticeQueue .b).queue = [⟨.bar, 250000, some ⟨1, 1, 0⟩⟩]
      ∧ (t.port .b).attn = true ∧ t.noticeQueue .c = NoticeQueue.reset
      ∧ (after (exec .recordSounds (s.setPort .b { s.port .b with session := 5 }))).noticeQueue .b =
        NoticeQueue.reset := by decide

theorem witness_BidIsGrantedPendedOrContended :
    opened.canCommand .a (.bid .a 1 601 2000 0 64)
      ∧ statusOf .a (exec (.bid .a 2 0 0 0 0) opened) = some .range
      ∧ statusOf .a (exec (.bid .a 1 600 30000 0 64) opened) = some .ok
      ∧ statusOf .a (exec (.bid .a 0 0 0 0 0) led) = some .already
      ∧ statusOf .a (exec (.bid .a 0 0 0 0 0)
          (opened.setPort .a { opened.port .a with eligible := false })) = some .notEligible
      ∧ (bidden 1).canCommand .b (.bid .b 0 0 0 0 0)
      ∧ statusOf .b (exec (.bid .b 0 0 0 0 0) (bidden 1)) = some .pending
      ∧ (let third := fun r => (bidden 1).setPort .c { DeskPort.reset with isOpen := true, rank := r }
        statusOf .c (exec (.bid .c 0 0 0 0 0) (third 1)) = some .lost
          ∧ statusOf .c (exec (.bid .c 0 0 0 0 0) (third 2)) = some .pending) := by
  refine ⟨opened_can _, ?_, ?_, ?_, ?_, bidder_can 1 _, ?_⟩ <;> decide

theorem witness_GrantMakesTheBidderLeader :
    let s := bidden 1
    s.arbiter.leader ≠ .port .b ∧ (s.port .b).isOpen = true ∧ (s.noticeQueue .b).queue.length < 16
      ∧ (s.noticeQueue .b).enabled.getLsbD 2 = true ∧ s.arbiter.leader = .port .a
      ∧ (s.port .a).isOpen = true ∧ (s.noticeQueue .a).enabled.getLsbD 3 = true := by decide

theorem witness_GrantMakesTheBidderLeader_full :
    let full : NoticeQueue := { NoticeQueue.reset with queue := List.replicate 16 ⟨.bar, 0, none⟩ }
    let s := ((bidden 1).setNoticeQueue .a full).setNoticeQueue .b { NoticeQueue.reset with enabled := 2 }
    let t := s.grant ⟨.b, 1, .plain, 0, 0, 0, 50⟩ .deposed
    t.noticeQueue .a = { full with overflowed := true } ∧ t.noticeQueue .b = s.noticeQueue .b
      ∧ t.arbiter.leader = .port .b := by decide

theorem witness_MatchedGrantTakesTheNearerPhase :
    let b : Bid := ⟨.b, 0, .matched, 12000, 1250000, 0, 0⟩
    IntervalLegal ((slipping 0).startTempo b.tempo b.glide).interval
      ∧ ((slipping 0).matchBid (some ⟨0, ⟨1, 1, 0⟩, 1000000⟩) b).2.1 = some 250000
      ∧ ((slipping 0).matchBid (some ⟨0, ⟨1, 1, 0⟩, 999999⟩) b).2.1 = some (-249999) := by
  refine ⟨?_, by decide, by decide⟩
  unfold IntervalLegal; decide

/-- Port A leads and tap 0 is STEADY. -/
def tapped : State :=
  led.setTap 0 (Tap.reset.withRing [20000000, 20499800, 21000100, 21500000])

theorem witness_LeaderAnswersTheBid :
    ((bidden 1).canLead .a (.yieldLead .a) ∧ (bidden 1).canCommand .b (.withdraw .b))
      ∧ statusOf .a (exec (.yieldLead .a) led) = some .already
      ∧ (after (exec (.yieldLead .a) (bidden 0))).arbiter.leader = .port .b
      ∧ statusOf .a (exec (.refuse .a) (bidden 0)) = some .ok
      ∧ (after (exec (.release .a) led)).arbiter.leader = .nobody
      ∧ statusOf .b (exec (.withdraw .b) (bidden 0)) = some .ok
      ∧ statusOf .a (exec (.withdraw .a) (bidden 0)) = some .already
      ∧ statusOf .a (exec (.keep .a) led) = some .ok
      ∧ statusOf .a (exec (.handToTap .a 4) led) = some .range
      ∧ statusOf .a (exec (.handToTap .a 3) led) = some .notSteady
      ∧ statusOf .a (exec (.handToTap .a 3) (bidden 0)) = some .busy
      ∧ (after (exec (.handToTap .a 0) tapped)).arbiter.leader = .tap 0 := by
  refine ⟨⟨bidden_can 1 _, bidder_can 1 _⟩, ?_⟩
  decide

theorem witness_ArbiterTimersExpire :
    ((bidden 1).arbiter.waitExpiry = some 5000000 ∧ (bidden 1).arbiter.slot.isSome = true)
      ∧ (after (exec .waitTimerExpiry { bidden 1 with houseTime := 4999999 })).arbiter =
        (bidden 1).arbiter
      ∧ (after (exec .waitTimerExpiry { bidden 1 with houseTime := 5000000 })).arbiter.leader = .port .b
      ∧ (after (exec .waitTimerExpiry { bidden 0 with houseTime := 5000000 })).arbiter.leader = .port .a
      ∧ (after (exec .silenceTimerExpiry { bidden 0 with houseTime := 2000000 })).arbiter.leader =
        .port .b
      ∧ (after (exec .silenceTimerExpiry
          { led with houseTime := 2000000, arbiter := ⟨.port .a, none, none, some 2000000⟩ })).arbiter =
        ⟨.nobody, none, none, none⟩ := by decide

theorem witness_RingGivesStateAndChangesAreTold :
    (0 : Int) ≤ ((20499800 : Time) - 20000000).toInt
      ∧ (tapped.tap 0).state = .steady ∧ (tapped.tap 1).state = .silent
      ∧ ({ tapped with arbiter := ⟨.tap 0, none, none, none⟩ }).arbiter.leader = .tap 0 := by decide

theorem witness_TapEdgeIsDisposedOf :
    let s := fun (t : Time) (sus : Bool) => { tapped.setTap 0 { tapped.tap 0 with
      debounceRef := some 21500000, suspect := sus } with houseTime := t }
    (s 21500999 false).rstLow = false
      ∧ after (exec (.tapEdge 0) (s 21500999 false)) = (s 21500999 false)
      ∧ ((after (exec (.tapEdge 0) (s 21501000 false))).tap 0).suspect = true
      ∧ ((after (exec (.tapEdge 0) (s 21501000 true))).tap 0).ring = [21501000]
      ∧ ((after (exec (.tapEdge 0) (s 22000200 true))).tap 0).ring.length = 5 := by decide

theorem witness_LockEdgeSteersTheEngine :
    IntervalLegal (slipping 0).interval ∧ IntervalLegal 136533333
      ∧ (record 0 1000000).position.pulse % (96 / 24) = 0
      ∧ |((1000001 : Time) - (record 0 1000000).refTime).toInt| <
        |((1000001 : Time) - (record 0 999999).refTime).toInt|
      ∧ ((slipping 0).lockPhase [record 0 999999, record 1 1000000] 24 1000001).slip = 32768 := by
  refine ⟨?_, ?_, by decide, by decide, by decide⟩ <;> (unfold IntervalLegal; decide)

theorem witness_TapIsEmptiedSetAndRead :
    (opened.canCommand .a (.setTap .a 0 1 0) ∧ State.reset.canTake .a (.readTap .a 3))
      ∧ statusOf .a (exec (.setTap .a 4 1 0) led) = some .range
      ∧ statusOf .a (exec (.setTap .a 3 3 0) led) = some .range
      ∧ statusOf .a (exec (.setTap .a 3 24 250000) led) = some .ok
      ∧ statusOf .a (exec (.setTap .a 3 1 (-250001)) led) = some .clamped
      ∧ statusOf .a (exec (.tapClear .a 3) led) = some .already
      ∧ statusOf .a (exec (.tapClear .a 0) tapped) = some .ok
      ∧ statusOf .a (exec (.readTap .a 4) led) = some .range
      ∧ ((after (exec (.tapSilenceDeadline 0)
          (tapped.setTap 0 { tapped.tap 0 with deadline := some 0 }))).tap 0).state = .silent := by
  refine ⟨⟨opened_can _, rfl, Or.inl rfl⟩, ?_⟩
  decide

/-- Port A leads and owns the stop cue. -/
def queued : State := { inState .running with cues := [stopCue] }

theorem witness_AllocationAndOwnCues :
    queued.canCommand .a (.setAllocation .a 0)
      ∧ statusOf .a (exec (.setAllocation .a 0) queued) = some .inUse
      ∧ statusOf .a (exec (.setAllocation .a 32) queued) = some .ok
      ∧ statusOf .a (exec (.setAllocation .a 33) queued) = some .noRoom
      ∧ statusOf .a (exec (.cancelCue .a 128 0) queued) = some .range
      ∧ statusOf .a (exec (.cancelCue .a 127 0) queued) = some .tooLate
      ∧ statusOf .a (exec (.cancelCue .a 0 0) queued) = some .ok
      ∧ statusOf .a (exec (.readCues .a 127) queued) = some .ok
      ∧ statusOf .a (exec (.readCues .a 128) queued) = some .range :=
  ⟨⟨⟨rfl, Or.inl rfl⟩, rfl⟩, by decide⟩

theorem witness_TriggersResolveForward :
    let s := inState .running
    s.gen.position.Legal 4 ∧ s.gen.position.barStart = false ∧ s.engine.meter = 4
      ∧ s.resolve .nextBeat = some ⟨3, 3, 0⟩ ∧ s.resolve (.nextPhrase 16) = some ⟨17, 1, 0⟩
      ∧ ({ s with gen := ⟨⟨65535, 4, 1⟩, 0, 0⟩ }).resolve .nextBeat = none := by
  refine ⟨?_, by decide⟩
  unfold Position.Legal; decide

theorem witness_ScheduledCueEntersThePool :
    let s := inState .running
    s.canCommand .a (.scheduleCue .a ⟨2, 0, 0, 0, 0, 7, 0, 1, 0⟩)
      ∧ statusOf .a (exec (.scheduleCue .a ⟨2, 0, 0, 0, 0, 8, 0, 1, 0⟩) s) = some .range
      ∧ statusOf .a (exec (.scheduleCue .a ⟨3, 3, 0, 0, 0, 7, 0, 1, 0⟩) s) = some .range
      ∧ statusOf .a (exec (.scheduleCue .a ⟨2, 0, 0, 0, 0, 0, 0, 1, 0⟩) s) = some .range
      ∧ statusOf .a (exec (.scheduleCue .a ⟨2, 0, 0, 0, 0, 0, 0x000100000000, 1, 0⟩) s) = some .notHeld
      ∧ statusOf .a (exec (.scheduleCue .a ⟨2, 0, 0, 0, 0, 2, 0, 1, 0⟩)
          { holding with clearing := true }) = some .busy
      ∧ statusOf .a (exec (.scheduleCue .a ⟨2, 0, 0, 0, 0, 7, 0, 1, 0⟩)
          (s.setAllocation .a 0)) = some .noRoom
      ∧ statusOf .a (exec (.scheduleCue .a ⟨0, 0, 3, 2, 4, 7, 0, 1, 0⟩) s) = some .past
      ∧ statusOf .a (exec (.scheduleCue .a ⟨0, 0, 3, 2, 4, 7, 0, 1, 1⟩) s) = some .ok
      ∧ (after (exec (.scheduleCue .a ⟨0, 0, 3, 2, 5, 7, 0, 1, 0⟩) s)).cues.map Cue.fire =
        [⟨3, 2, 5⟩] := by
  refine ⟨(inState_can .running _).1, ?_⟩
  decide

theorem witness_ScheduledCueEntersThePool_fields :
    readTrigger ⟨0, 0, 65535, 16, 95, 7, 0, 1, 0⟩ = some (.at ⟨65535, 16, 95⟩)
      ∧ readTrigger ⟨0, 0, 1, 17, 0, 7, 0, 1, 0⟩ = none ∧ readTrigger ⟨0, 0, 1, 1, 96, 7, 0, 1, 0⟩ = none
      ∧ readTrigger ⟨3, 16, 0, 0, 0, 7, 0, 1, 0⟩ = some (.nextPhrase 16)
      ∧ readAction .loadRow 0x037F3F000000 = some (.loadRow 3 127 63, false)
      ∧ readAction .loadRow 0x038000000000 = none ∧ readAction .halfLoad 0x000020000000 = none
      ∧ readAction .tempo 0x753041000000 = some (.tempo 30000 64, true)
      ∧ readAction .meter 0x110000000000 = none := by decide

theorem witness_ScheduledCueEntersThePool_pool : (inState .running).PoolInv := by
  unfold State.PoolInv
  refine ⟨by decide, .nil, .nil, by decide, by decide, fun p => ?_, by decide⟩
  cases p <;> decide

theorem witness_DueCuesFireOrAreDropped :
    queued.gen.position.before stopCue.fire = false ∧ queued.cues = stopCue :: []
      ∧ queued.fireCues.stop = true
      ∧ ({ queued with cues := [{ stopCue with action := .mute 1 }] }).fireCues.given =
        [(.a, .cueDropped 0 0 .mute .notHeld ⟨3, 2, 5⟩)]
      ∧ ({ queued with cues := [{ stopCue with action := .loadRow 0 1 2 }] }).fireCues.given =
        [(.a, .cueDropped 0 0 .loadRow .notHeld ⟨3, 2, 5⟩)]
      ∧ ({ queued with cues := [{ stopCue with action := .meter 3 }] }).fireCues.state.engine.pendingMeter =
        some 3 := by decide

theorem witness_DueCuesFireOrAreDropped_several :
    let mute : Cue := { stopCue with action := .mute 3 }
    let unmute : Cue := { stopCue with id := 1, action := .unmute 2 }
    let s := { holding with gen := ⟨⟨3, 2, 5⟩, 0, 0⟩, cues := [mute, unmute] }
    s.gen.position.before mute.fire = false ∧ (∀ d ∈ [unmute], d.id ≠ mute.id)
      ∧ (s.fireCues.changes[0], s.fireCues.changes[1]) = (some .muted, some .unmuted)
      ∧ s.fireCues.given.map Prod.snd =
        [.cueFired 0 0 .mute false 3, .cueFired 1 0 .unmute false 2]
      ∧ ({ s with cues := [{ stopCue with action := .loadRow 0 1 2 },
          { unmute with action := .halfLoad 0 1 2 }] }).fireCues.given.map Prod.snd =
        [.cueFired 0 0 .loadRow false 0, .cueDropped 1 0 .halfLoad .busy ⟨3, 2, 5⟩]
      ∧ ({ s with gen := ⟨⟨3, 2, 4⟩, 0, 0⟩ }).fireCues.given = [] := by decide

theorem witness_WriteStepsWritesItsRun :
    holding.canCommand .a (.writeSteps .a 127 63 1 1 [0xC000]) ∧ holding.clearing = false
      ∧ holding.MemoryInv
      ∧ statusOf .a (exec (.writeSteps .a 127 63 1 1 [0xC000]) holding) = some .ok
      ∧ statusOf .a (exec (.writeSteps .a 127 63 2 1 [0, 0]) holding) = some .clamped
      ∧ statusOf .a (exec (.writeSteps .a 127 63 1 1 []) holding) = some .range
      ∧ statusOf .a (exec (.writeSteps .a 128 0 0 1 []) holding) = some .range :=
  ⟨holding_can _, rfl, ⟨by decide, fun i => by fin_cases i <;> decide⟩, by decide⟩

theorem witness_FillsWriteTheFillRegister :
    holding.canCommand .a (.blockFill .a 127 63 15 1) ∧ holding.clearing = false ∧ holding.MemoryInv
      ∧ statusOf .a (exec (.blockFill .a 127 63 15 1) holding) = some .ok
      ∧ statusOf .a (exec (.blockFill .a 0 64 15 1) holding) = some .range
      ∧ statusOf .a (exec (.rowFill .a 128 1) holding) = some .range :=
  ⟨holding_can _, rfl, ⟨by decide, fun i => by fin_cases i <;> decide⟩, by decide⟩

theorem witness_PatternReadsMasksAndClear :
    holding.canCommand .a (.readSteps .a 127 63 1) ∧ holding.clearing = false
      ∧ statusOf .a (exec (.readSteps .a 127 63 1) holding) = some .ok
      ∧ statusOf .a (exec (.readSteps .a 127 63 2) holding) = some .clamped
      ∧ statusOf .a (exec (.readSteps .a 127 64 0) holding) = some .range
      ∧ statusOf .a (exec (.maskReset .a) holding) = some .already
      ∧ (after (exec (.loadMask .a 3) holding)).writeSetting .a = ⟨.held, 3, Vector.replicate 8 0⟩
      ∧ (after (exec .patternClearEnd { State.reset with houseTime := 3999 })).clearing = true
      ∧ (after (exec .patternClearEnd { State.reset with houseTime := 4000 })).clearing = false :=
  ⟨holding_can _, by decide⟩

/-- Port A holds player 0, which is PRIMED with its cursor at step `c`. -/
def primed (c : Nat) : State :=
  holding.setPlayer 0 { Player.reset with primed := true, cursor := c }

theorem witness_PlayersAreLoadedSetAndRead :
    (holding.canCommand .a (.loadRow .a 3 127 63) ∧ led.canCommand .a (.loadRow .a 0 0 0))
      ∧ statusOf .a (exec (.loadRow .a 3 127 63) holding) = some .ok
      ∧ statusOf .a (exec (.loadRow .a 4 0 0) holding) = some .range
      ∧ statusOf .a (exec (.loadRow .a 0 0 0) led) = some .notHeld
      ∧ statusOf .a (exec (.halfLoad .a 0 0 32) (primed 0)) = some .range
      ∧ statusOf .a (exec (.halfLoad .a 0 0 31) holding) = some .notPrimed
      ∧ ((after (exec (.halfLoad .a 0 9 31) (primed 31))).player 0).halfTap = some (.upper, 31)
      ∧ ((after (exec (.halfLoad .a 0 9 31) (primed 32))).player 0).halfTap = some (.lower, 31)
      ∧ statusOf .a (exec (.halfLoad .a 0 0 0)
          (holding.setPlayer 0 { Player.reset with primed := true, rowJump := some 1 })) = some .busy
      ∧ statusOf .a (exec (.setStepLength .a 0 96) holding) = some .ok
      ∧ statusOf .a (exec (.setStepLength .a 0 97) holding) = some .clamped
      ∧ statusOf .a (exec (.readPlayer .a 0 2) holding) = some .range :=
  ⟨⟨holding_can _, (led_can _).1⟩, by decide⟩

theorem witness_PlayerMovesAtAStepStart :
    let pl := fun c t => { (primed c).player 0 with halfTap := t }
    ((pl 31 none).atRecord false false 6).1.cursor = 32
      ∧ ((pl 63 none).atRecord false false 6).2.2 = true
      ∧ ((pl 31 (some (.upper, 5))).atRecord false false 0).1.cursor = 37
      ∧ ((pl 31 none).atRecord false false 5).1.cursor = 31
      ∧ ((pl 31 none).atRecord true false 5).1.cursor = 0
      ∧ State.reset.gen.position.barStart = true := by decide

theorem witness_ClaimsAreTakenWhole :
    (opened.canCommand .a (.claimLanes .a 15 1) ∧ holding.canCommand .a (.claimPlayer .a 3 1))
      ∧ statusOf .a (exec (.claimLanes .a 15 1) opened) = some .ok
      ∧ statusOf .a (exec (.claimLanes .a 15 1) holding) = some .already
      ∧ statusOf .a (exec (.claimLanes .a 16 1) opened) = some .range
      ∧ statusOf .a (exec (.releaseLanes .a 0 16) opened) = some .already
      ∧ statusOf .a (exec (.claimPlayer .a 3 1) opened) = some .ok
      ∧ statusOf .a (exec (.claimPlayer .a 3 2) opened) = some .range
      ∧ statusOf .a (exec (.releasePlayer .a 0 4) holding) = some .ok
      ∧ payloadOf (exec (.claimLanes .a 2 3)
          { opened with laneClaims := (Vector.replicate 16 none).set 4 (some .c) }) = [4, 3]
      ∧ payloadOf (exec (.claimPlayer .a 0 4)
          { opened with playerClaims := (Vector.replicate 4 none).set 3 (some .d) }) = [3, 4] :=
  ⟨⟨opened_can _, holding_can _⟩, by decide⟩

/-- A CLOCK record as sent. -/
def clockSettings (divisor phase : BitVec 16) : RawLaneSettings :=
  ⟨1, divisor, phase, 0, 5000, 10000, 20000, 40000, 0, 0, 0, 0⟩

theorem witness_SetLaneReplacesTheRecord :
    holding.canCommand .a (.setLane .a 15 (clockSettings 384 383))
      ∧ statusOf .a (exec (.setLane .a 15 (clockSettings 384 383)) holding) = some .ok
      ∧ statusOf .a (exec (.setLane .a 15 (clockSettings 385 0)) holding) = some .range
      ∧ statusOf .a (exec (.setLane .a 15 (clockSettings 24 24)) holding) = some .range
      ∧ statusOf .a (exec (.setLane .a 16 (clockSettings 24 0)) holding) = some .range
      ∧ statusOf .a (exec (.setLane .a 0 (clockSettings 24 0)) led) = some .notHeld
      ∧ statusOf .a (exec (.setLane .a 0 { clockSettings 24 0 with clockWidth := 100001 }) holding) =
        some .clamped
      ∧ (let s := { holding.setLane 0 { Lane.reset with
            settings := { LaneSettings.reset with mode := .run }, cursor := some .next } with
          transport := { holding.transport with state := .armed } }
        statusOf .a (exec (.setLane .a 0 (clockSettings 24 0)) s) = some .locked)
      ∧ (let clock : Lane := { Lane.reset with
            settings := { LaneSettings.reset with mode := .clock }, cursor := some (.at 7) }
        let s := { holding.setLane 0 clock with
          houseTime := 1000000
          queue := [record 6 990000,
            { record 7 1000010 with laneChanges := [⟨0, .muted⟩] }, record 8 1010000] }
        let moved := (after (exec (.setLane .a 0 { clockSettings 24 0 with offset := -20 }) s)).lane 0
        moved.cursor = some (.at 8) ∧ moved.mute = .muted ∧ moved.settings.offset = -20
          ∧ ((after (exec (.setLane .a 0 { clockSettings 24 0 with mode := 2 }) s)).lane 0).cursor =
            some (.at 7)) :=
  ⟨holding_can _, by decide⟩

theorem witness_SetLaneReplacesTheRecord_launch :
    let s := { holding with
      houseTime := 990000
      queue := [{ record 0 1000000 with markers := ⟨true, true, true, false⟩ }, record 1 1005208] }
    let run := (after (exec (.setLane .a 0 { clockSettings 24 0 with mode := 3 }) s)).lane 0
    run.cursor = some (.at 1) ∧ run.runFlag = false ∧ run.settings.mode = .run
      ∧ ((after (exec (.setLane .a 0 (clockSettings 24 0)) s)).lane 0).cursor = some (.at 0)
      ∧ ((after (exec (.setLane .a 0 { clockSettings 24 0 with mode := 3 })
        { s with queue := s.queue.take 1 })).lane 0).cursor = some .next := by decide

theorem witness_LanesAreMutedAndRead :
    holding.canCommand .a (.mute .a 0x8001) ∧ holding.canCommand .a (.unmute .a 0x8001)
      ∧ statusOf .a (exec (.mute .a 0) holding) = some .range
      ∧ statusOf .a (exec (.mute .a 0x8001) led) = some .notHeld
      ∧ statusOf .a (exec (.mute .a 0x8001) holding) = some .ok
      ∧ statusOf .a (exec (.unmute .a 0x8001) holding) = some .already
      ∧ statusOf .a (exec (.readLane .a 15) holding) = some .ok
      ∧ statusOf .a (exec (.readLane .a 16) holding) = some .range :=
  ⟨holding_can _, holding_can _, by decide⟩

/-- Lane 0 runs in `mode`, with its cursor on the record of pulse 0. -/
def laneAt (mode : LaneMode) (r : PulseRecord) (t : Time) : State :=
  { holding.setLane 0 { Lane.reset with
      settings := { LaneSettings.reset with mode := mode }, cursor := some (.at 0) } with
    queue := [r], houseTime := t }

theorem witness_LaneProcessesTheRecordItNames :
    let beat := { record 0 1000000 with steps := [⟨0, 0, #v[3, 0, 0, 0, 0, 0, 0, 0]⟩] }
    let launch := { record 0 1000000 with markers := ⟨true, true, true, false⟩ }
    after (exec (.laneProcessing 0) (laneAt .clock beat 999999)) = (laneAt .clock beat 999999)
      ∧ (let l := (after (exec (.laneProcessing 0) (laneAt .clock beat 1000000))).lane 0
        l.output = .active ∧ l.pulseEnd = some 1005000 ∧ l.cursor = some .next)
      ∧ ((after (exec (.laneProcessing 0) (laneAt .gate beat 1000000))).lane 0).pulseEnd =
        some 1030749
      ∧ (let l := (after (exec (.laneProcessing 0) (laneAt .run launch 1000000))).lane 0
        l.output = .active ∧ l.runFlag = true ∧ l.pulseEnd = none)
      ∧ (let final := { record 0 1000000 with markers := ⟨true, true, true, true⟩ }
        ((after (exec (.laneProcessing 0) (laneAt .clock final 1000000))).lane 0).output = .active
          ∧ ((after (exec (.laneProcessing 0) (laneAt .run final 1005207))).lane 0).runEnd = some 1005208
          ∧ ((after (exec (.laneProcessing 0) (laneAt .run final 1005208))).lane 0).output = .inactive) := by
  decide

theorem witness_PulsesAndRunsEnd :
    let run : Lane := { Lane.reset with
      settings := { LaneSettings.reset with mode := .run }, runFlag := true, output := .active
      pulseEnd := some 100, runEnd := some 200 }
    let s := fun (t : Time) => { holding.setLane 0 run with houseTime := t }
    after (exec (.pulseEnd 0) (s 99)) = (s 99)
      ∧ ((after (exec (.pulseEnd 0) (s 100))).lane 0).output = .active
      ∧ after (exec (.runEnd 0) (s 199)) = (s 199)
      ∧ ((after (exec (.runEnd 0) (s 200))).lane 0).output = .inactive
      ∧ (run.noteLast 1005207 (record 0 1000000)).runEnd = some 1005208
      ∧ (run.noteLast 1005208 (record 0 1000000)).runFlag = false := by decide

theorem witness_NoticesArePostedSetAndRead :
    opened.canCommand .a (.setNotices .a 0xFFFF 1) ∧ opened.canCommand .a (.readNotices .a)
      ∧ payloadOf (exec (.setNotices .a 0xFFFF 1) opened) = [0x0F, 0xFE, 1]
      ∧ payloadOf (exec (.setNotices .a 0 0) opened) = [0, 2, 0]
      ∧ statusOf .a (exec (.setNotices .a 0 2) opened) = some .range
      ∧ (let on := opened.postAt .a (.overrun 1) none
        (on.port .a).attn = true ∧ payloadOf (exec (.readNotices .a) on) =
          [0, 0, 1, 11, 1, 0, 0, 0, 0, 0, 0, 0, 0, 0, 1])
      ∧ opened.postAt .a .bar none = opened ∧ opened.postAt .b (.overrun 1) none = opened :=
  ⟨opened_can _, opened_can _, by decide⟩

theorem witness_CommandFramesRoundTrip :
    (Instr.setTempo .a 12600 16).wellFormed = true ∧ (Instr.setTempo .a 12600 16).port? = some .a
      ∧ frameBytes (.setTempo .a 12600 16) = 0x10 :: [3, 0x31, 0x38, 16]
      ∧ (Instr.unknownCommand .a 0x99 [0]).wellFormed = true
      ∧ frameBytes (.unknownCommand .a 0x99 [0]) = 0x99 :: [0] := by decide

/-- Port A leads with its silence timer running, and its SET_TEMPO waits. -/
def leading : State :=
  { led with
    arbiter := ⟨.port .a, none, none, some 2000000⟩, pending := [.setTempo .a 12600 16] }

/-- What waits in `leading` is taken. -/
theorem leading_steps : ∃ t, step leading = .next t := ⟨_, rfl⟩

theorem witness_StepsKeepTheGridLegal : leading.GridInv ∧ ∃ t, step leading = .next t := by
  refine ⟨⟨⟨?_, ?_, ?_, fun h => absurd h (by decide), ?_, ?_, ?_, fun m h => ?_⟩, ?_, ?_, fun b h => ?_⟩,
    leading_steps⟩
  · unfold IntervalLegal; decide
  · unfold IntervalLegal; decide
  · decide
  · decide
  · decide
  · decide
  · cases h
  · unfold Position.Legal; decide
  · intro c h; cases h
  · cases h

theorem witness_StepsKeepTheRunLegal : leading.RunInv ∧ ∃ t, step leading = .next t := by
  refine ⟨⟨⟨rfl, rfl, rfl, rfl⟩, by decide, fun _ => rfl, .nil, fun h => absurd h (by decide)⟩,
    leading_steps⟩

/-- RUNNING with a record in the queue, at the instant of the next step, which waits. -/
def rolling : State :=
  { running 980000 with queue := [record 6 995000], pending := [.generatorStep] }

theorem witness_StepsKeepTheRunLegal_queue :
    (rolling.GridInv ∧ rolling.RunInv ∧ rolling.QueueInv) ∧ rolling.houseTime.toNat < 2 ^ 63
      ∧ ∃ t, step rolling = .next t := by
  refine ⟨⟨⟨⟨?_, ?_, ?_, fun h => absurd h (by decide), ?_, ?_, ?_, fun m h => ?_⟩, ?_, ?_, fun b h => ?_⟩,
    ⟨⟨rfl, rfl, rfl⟩, by decide, fun h => absurd h (by decide), .singleton _, fun _ r h => ?_⟩,
    ⟨fun h => absurd h (by decide), fun t h => absurd h (by decide), fun _ => by decide, by decide,
      .singleton _, fun _ r h => ?_⟩⟩, by decide, ⟨_, rfl⟩⟩
  · unfold IntervalLegal; decide
  · unfold IntervalLegal; decide
  · decide
  · decide
  · decide
  · decide
  · cases h
  · unfold Position.Legal; decide
  · intro c h; cases h
  · cases h
  · cases h; decide
  · cases h; decide

theorem witness_StepsKeepTheLeadAndTheTapsLegal :
    (leading.LeadInv ∧ leading.TapInv) ∧ ∃ t, step leading = .next t := by
  have hs : leading.arbiter.slot = none := rfl
  have hl : leading.arbiter.leader = .port .a := rfl
  refine ⟨⟨⟨⟨fun p h => ?_, fun t h => ?_, fun t => ?_⟩, fun b h => ?_, ⟨?_, ?_⟩, fun h => ?_, fun t => ?_⟩,
    fun t => ⟨?_, ?_, ?_, ?_, ?_, ?_, ?_, ?_⟩⟩, leading_steps⟩
  · rw [hl] at h; cases h; decide
  · rw [hl] at h; cases h
  · rw [hl]; fin_cases t <;> decide
  · rw [hs] at h; cases h
  · rw [hs]; simp; decide
  · rw [hl]; exact ⟨fun _ => ⟨.a, rfl, by decide⟩, fun _ => by decide⟩
  · rw [hl] at h; cases h
  all_goals (fin_cases t <;> decide)

theorem witness_StepsKeepThePoolInOrder : leading.PoolInv ∧ ∃ t, step leading = .next t := by
  refine ⟨?_, leading_steps⟩
  unfold State.PoolInv
  refine ⟨by decide, .nil, .nil, by decide, by decide, fun p => ?_, by decide⟩
  cases p <;> decide

theorem witness_StepsKeepPatternsAndPlayersLegal :
    (leading.MemoryInv ∧ leading.PlayerInv) ∧ ∃ t, step leading = .next t := by
  refine ⟨⟨⟨by decide, fun i => ?_⟩, fun i => ?_, fun c h => ?_⟩, leading_steps⟩
  · fin_cases i <;> decide
  · have h : leading.player i = Player.reset := by fin_cases i <;> rfl
    rw [h]
    unfold Player.Legal
    simp [Player.reset]
  · cases h

theorem witness_StepsKeepTheLanesLegal : leading.LaneInv ∧ ∃ t, step leading = .next t := by
  refine ⟨fun l => ?_, leading_steps⟩
  have h : leading.lane l = Lane.reset := by fin_cases l <;> rfl
  rw [h]
  unfold Lane.Legal LaneSettings.Legal
  decide

theorem witness_StepsKeepPortsClaimsAndNoticesLegal :
    (leading.PortInv ∧ leading.ClaimsInv ∧ leading.NoticeInv) ∧ ∃ t, step leading = .next t := by
  refine ⟨⟨fun p => ?_, ⟨fun l p h => ?_, fun i p h => ?_⟩, fun p => ?_⟩, leading_steps⟩
  · unfold DeskPort.Legal; cases p <;> decide
  · have h' : leading.laneHolder l = none := by fin_cases l <;> rfl
    rw [h'] at h; cases h
  · have h' : leading.playerHolder i = none := by fin_cases i <;> rfl
    rw [h'] at h; cases h
  · cases p <;> decide

end Sys2Proof.Tests
end

