-- ==== Sys2Proof/Proofs/GridArithmetic.lean ====
section
/-! PROOF. Grid arithmetic (chapter 1): rounding half up and its inverse, the beat period in the position
snapshot and in a matched grant, the spending of the slip and the one addition to it. -/

namespace Sys2Proof.Machine

/-! ### Rounding half up -/

/-- `q` is the exact quotient `n / d` rounded half up: it is more than `n / d - 1/2` and at most
`n / d + 1/2`, with the denominators cleared. -/
def IsHalfUp (n d q : Nat) : Prop := d * (2 * q) ≤ 2 * n + d ∧ 2 * n < d * (2 * q + 1)

/-- Only one number is a quotient rounded half up. -/
theorem IsHalfUp.unique {n d q r : Nat} (hq : IsHalfUp n d q) (hr : IsHalfUp n d r) : q = r := by
  obtain ⟨hq, hq'⟩ := hq
  obtain ⟨hr, hr'⟩ := hr
  have hqr : 2 * q < 2 * r + 2 := Nat.lt_of_mul_lt_mul_left (a := d) (by linarith)
  have hrq : 2 * r < 2 * q + 2 := Nat.lt_of_mul_lt_mul_left (a := d) (by linarith)
  omega

/-- A divisor no greater than its rounded quotient is itself that quotient's rounded quotient: the error
of at most half a divisor is less than half a quotient. -/
theorem IsHalfUp.swap {n d q : Nat} (h : IsHalfUp n d q) (hdq : d ≤ q) : IsHalfUp n q d := by
  obtain ⟨hlo, hhi⟩ := h
  constructor <;> linarith

/-- Adding half the divisor before the division rounds half up (R3). -/
theorem isHalfUp_add_half_div {n d : Nat} (hd : 0 < d) : IsHalfUp n d ((n + d / 2) / d) := by
  have hle := Nat.mul_div_le (n + d / 2) d
  have hlt := Nat.lt_mul_div_succ (n + d / 2) hd
  unfold IsHalfUp
  simp only [Nat.mul_add, Nat.mul_left_comm d 2, Nat.mul_one] at hlt ⊢
  omega

/-- Adding the divisor to twice the dividend, over twice the divisor, rounds half up (R4). -/
theorem isHalfUp_double_add_div {n d : Nat} (hd : 0 < d) : IsHalfUp n d ((2 * n + d) / (2 * d)) := by
  have hle := Nat.mul_div_le (2 * n + d) (2 * d)
  have hlt := Nat.lt_mul_div_succ (2 * n + d) (Nat.mul_pos Nat.two_pos hd)
  constructor <;> linarith

/-! ### Tempo value, interval and beat period -/

/-- A tempo value's interval is rounded half up (R3). -/
theorem intervalOf_isHalfUp {c : Nat} (hc : 0 < c) : IsHalfUp 4096000000000 c (intervalOf c) :=
  isHalfUp_add_half_div hc

/-- An interval's tempo value is rounded half up (R4). -/
theorem tempoOf_isHalfUp {i : Nat} (hi : 0 < i) : IsHalfUp 4096000000000 i (tempoOf i) :=
  isHalfUp_double_add_div hi

/-- An interval's beat period is rounded half up (R5). -/
theorem beatPeriod_isHalfUp (i : Nat) : IsHalfUp (96 * i) 65536 (beatPeriod i) :=
  isHalfUp_add_half_div (by decide)

/-- A tempo value in its range has an interval in its range (R3). -/
theorem intervalOf_legal {c : Nat} (hlo : 2000 ≤ c) (hhi : c ≤ 30000) :
    IntervalLegal (intervalOf c) := by
  have hc : 0 < c := by omega
  unfold IntervalLegal intervalOf Config.tempoConstant
  rw [Nat.le_div_iff_mul_le hc, Nat.div_le_iff_le_mul_add_pred hc]
  omega

/-- An interval in its range has a tempo value in its range (R4). -/
theorem tempoOf_range {i : Nat} (h : IntervalLegal i) : 2000 ≤ tempoOf i ∧ tempoOf i ≤ 30000 := by
  obtain ⟨hlo, hhi⟩ := h
  have hi : 0 < 2 * i := by omega
  unfold tempoOf Config.tempoConstant
  rw [Nat.le_div_iff_mul_le hi, Nat.div_le_iff_le_mul_add_pred hi]
  omega

/-- A converted tempo value is reported as it was sent (R4). -/
theorem tempoOf_intervalOf {c : Nat} (hlo : 2000 ≤ c) (hhi : c ≤ 30000) :
    tempoOf (intervalOf c) = c := by
  obtain ⟨hi, -⟩ := intervalOf_legal hlo hhi
  have hback : IsHalfUp 4096000000000 (intervalOf c) c :=
    (intervalOf_isHalfUp (by omega)).swap (by omega)
  exact (tempoOf_isHalfUp (by omega)).unique hback

/-- The beat period of an interval in its range is a fifth of a second to three seconds (R5). -/
theorem beatPeriod_range {i : Nat} (h : IntervalLegal i) :
    200000 ≤ beatPeriod i ∧ beatPeriod i ≤ 3000000 := by
  obtain ⟨hlo, hhi⟩ := h
  unfold beatPeriod
  omega

/-! ### The beat period in the snapshot and in a matched grant -/

@[simp] theorem length_toBytes (n v : Nat) : (toBytes n v).length = n := by
  induction n with
  | zero => rfl
  | succ n ih => rw [toBytes, List.length_cons, ih]

/-- The beat period stands in the snapshot after its 18 bytes of time, presence, codes, generator position
and tempo (R39, section 9.6). -/
theorem State.snapshotBytes_beatPeriod (s : State) :
    (s.snapshotBytes.drop 18).take 4 = toBytes 4 (beatPeriod s.engine.interval) := by
  simp [State.snapshotBytes, timeBytes, presence, byte, positionBytes, List.drop_append,
    List.drop_eq_nil_of_le]

/-- The phase difference is the difference of the two beats modulo the beat period (R62). -/
theorem phaseDifference_congr {m : BeatMark} {ref : Time} {i : Nat} {d : Int}
    (h : phaseDifference (some m) ref i = some d) :
    (beatPeriod i : Int) ∣ d - ((ref.toNat : Int) - (m.refTime.toNat : Int)) := by
  simp only [phaseDifference, Option.some.injEq] at h
  have hr := Int.dvd_emod_sub_self (x := (ref.toNat : Int) - (m.refTime.toNat : Int))
    (m := beatPeriod i)
  split at h <;> subst h
  · rw [sub_right_comm]
    exact dvd_sub_self_right.mpr hr
  · exact hr

/-- Settles O11: rounding half up is inverted by rounding half up, since a tempo value is far smaller than
its interval. -/
theorem tempoAndBeatPeriodRoundHalfUp : Obligations.TempoAndBeatPeriodRoundHalfUp := by
  refine ⟨fun c hlo hhi => ?_, fun i hi => ?_, rfl, rfl, State.snapshotBytes_beatPeriod,
    fun m ref i d _ h => phaseDifference_congr h⟩
  · obtain ⟨hle, hlt⟩ := intervalOf_isHalfUp (c := c) (by omega)
    exact ⟨intervalOf_legal hlo hhi, hle, hlt, tempoOf_intervalOf hlo hhi⟩
  · obtain ⟨hle, hlt⟩ := tempoOf_isHalfUp (i := i) (by have := hi.1; omega)
    obtain ⟨hPle, hPlt⟩ := beatPeriod_isHalfUp i
    obtain ⟨hclo, hchi⟩ := tempoOf_range hi
    obtain ⟨hPlo, hPhi⟩ := beatPeriod_range hi
    exact ⟨hclo, hchi, hle, hlt, rfl, hPle, hPlt, hPlo, hPhi⟩

/-! ### Spending the slip -/

/-- The slip portion is the pending slip clamped to a thirty-second of the interval (R8). -/
theorem Engine.slipPortion_eq (e : Engine) :
    e.slipPortion = max (-((e.interval / 32 : Nat) : Int)) (min ((e.interval / 32 : Nat) : Int) e.slip) :=
  rfl

/-- A step takes its slip portion off the pending slip, whatever the glide does (R8). -/
@[simp] theorem Engine.afterRecord_slip (e : Engine) : e.afterRecord.slip = e.slip - e.slipPortion := by
  unfold Engine.afterRecord
  dsimp only
  split
  · rfl
  · split <;> rfl

/-- A step lasts the interval and its slip portion, never less than the shortest interval less its
thirty-second (R8). -/
theorem Engine.stepLength_ge {e : Engine} (h : IntervalLegal e.interval) :
    132266667 ≤ (e.interval : Int) + e.slipPortion := by
  obtain ⟨hlo, -⟩ := h
  have hp : -((e.interval / 32 : Nat) : Int) ≤ e.slipPortion := (clampInt_spec (by omega)).1
  omega

/-- Settles O12, by the sign of the slip and its size against a thirty-second of the interval. -/
theorem slipIsSpentTowardZero : Obligations.SlipIsSpentTowardZero := by
  refine ⟨fun e => ?_, rfl, fun e n h => ?_⟩
  · intro limit
    have hlimit : 0 ≤ limit := Int.natCast_nonneg _
    have hportion : e.slipPortion = max (-limit) (min limit e.slip) := e.slipPortion_eq
    rw [e.afterRecord_slip]
    refine ⟨hportion, rfl, fun _ _ => ?_, fun _ => ?_, fun _ => ?_⟩ <;> omega
  · have hstep := Engine.stepLength_ge h
    exact ⟨hstep, by omega⟩

/-! ### Adding to the slip -/

/-- Half a beat at the interval in effect, in grains: the bound of the pending slip (R13). -/
def Engine.halfBeat (e : Engine) : Int := 48 * (e.interval : Int)

/-- The addition changes the slip alone, to the sum clamped to half a beat (R13). -/
theorem Engine.addSlip_engine (e : Engine) (g : Int) :
    (e.addSlip g).1 = { e with slip := max (-e.halfBeat) (min e.halfBeat (e.slip + g)) } := rfl

/-- The addition is clamped exactly when the sum lies beyond half a beat (R13). -/
theorem Engine.addSlip_clamped (e : Engine) (g : Int) :
    (e.addSlip g).2 = true ↔ e.slip + g < -e.halfBeat ∨ e.halfBeat < e.slip + g :=
  decide_eq_true_iff

/-- An addition that is not clamped loses nothing (R13). -/
theorem Engine.addSlip_lossless {e : Engine} {g : Int} (h : (e.addSlip g).2 = false) :
    (e.addSlip g).1.slip = e.slip + g := by
  have hb : -e.halfBeat ≤ e.halfBeat := by unfold Engine.halfBeat; omega
  exact (clampInt_spec hb).2.2.1 h

/-- The pending slip lies within half a beat once it has been added to (R13). -/
theorem Engine.addSlip_natAbs_le (e : Engine) (g : Int) :
    ((e.addSlip g).1.slip.natAbs : Int) ≤ e.halfBeat := by
  rw [e.addSlip_engine]
  have hb : 0 ≤ e.halfBeat := by unfold Engine.halfBeat; omega
  dsimp only
  omega

/-- A leader's command that can be taken acts and is answered (R56, R164). -/
theorem take_of_canLead {p : Port} {i : Instr} {s : State} (h : s.canLead p i) (code : Byte)
    (body : State → State × Answer) :
    take p code i (asLeader p body) s =
      answers p code (body (s.heard p i)).2.status (body (s.heard p i)).2.payload
        (body (s.heard p i)).1 := by
  rw [take_of_canCommand h.1, asLeader_of_leads (State.heard_leader_of_canLead h)]
  rfl

/-- NUDGE is the taking of the tempo engine's body, for the leader (R14). -/
theorem exec_nudge (p : Port) (d : BitVec 32) (s : State) :
    exec (.nudge p d) s = take p 0x11 (.nudge p d) (asLeader p (nudgeBody d)) s := rfl

/-- NUDGE leaves the part as it is for a shift of 0, and adds any other shift to the slip (R14). -/
theorem nudgeBody_state (d : BitVec 32) (s : State) :
    (nudgeBody d s).1 =
      if d = 0 then s else { s with engine := (s.engine.addSlip (d.toInt * 65536)).1 } := by
  unfold nudgeBody
  split <;> rfl

/-- A matched grant that takes a phase difference adds it to the slip after its tempo change (R62). -/
theorem Engine.matchBid_of_phase {e : Engine} {beat : Option BeatMark} {b : Bid} {d : Int}
    (h : (e.matchBid beat b).2.1 = some d) :
    ((e.matchBid beat b).1, (e.matchBid beat b).2.2) =
      (e.startTempo b.tempo b.glide).addSlip (d * 65536) := by
  unfold Engine.matchBid at h ⊢
  cases hd : phaseDifference beat b.beatRef (e.startTempo b.tempo b.glide).interval with
  | none => simp [hd] at h
  | some d' =>
    have hdd : d' = d := by simpa [hd] using h
    simp [hd, hdd]

/-- The lock loop changes the engine by an addition to the slip or not at all (R91). -/
theorem Engine.lockPhase_cases (e : Engine) (q : List PulseRecord) (k : Nat) (t : Time) :
    e.lockPhase q k t = e ∨ ∃ g, e.lockPhase q k t = (e.addSlip g).1 := by
  unfold Engine.lockPhase
  split
  · exact .inr ⟨_, rfl⟩
  · exact .inl rfl

/-- Settles O13: the addition by its clamp, and its three callers each by the one branch that adds. -/
theorem slipAdditionIsClamped : Obligations.SlipAdditionIsClamped := by
  refine ⟨fun e g => ?_, fun p d s h => ?_, fun e beat b d h => Engine.matchBid_of_phase h,
    Engine.lockPhase_cases⟩
  · refine ⟨e.addSlip_engine g, e.addSlip_clamped g, Engine.addSlip_lossless, fun hi => ?_,
      e.afterRecord_slip⟩
    have hle := e.addSlip_natAbs_le g
    unfold Engine.halfBeat at hle
    omega
  · rw [exec_nudge, take_of_canLead h, nudgeBody_state, State.heard_engine]
    exact ⟨_, _, rfl⟩

end Sys2Proof.Machine
end

/-! PROOF. The pattern memory (chapter 7): the cells of a step and of a run of steps after they are written, and
WRITE_STEPS. -/

namespace Sys2Proof.Machine

/-! ### Writing a run of steps -/

/-- The address of a step's cell is its plane's place after the step's first cell (R120). -/
theorem cellAddress_eq_add (row step plane : Nat) :
    cellAddress row step plane = cellAddress row step 0 + plane := by
  simp only [cellAddress, Nat.add_zero]

/-- A step of the pattern memory lies in it as a whole (R120). -/
theorem cellAddress_add_lt {row step : Nat} (hrow : row ≤ 127) (hstep : step < 64) :
    cellAddress row step 0 + 7 < cellsInMemory := by
  simp only [cellAddress, cellsPerRow, cellsPerStep, cellsInMemory]
  omega

/-- A cell of another step lies outside the step: a row's 64 steps of 8 cells do not overlap (R120). -/
theorem cellAddress_outside {row step r j q : Nat} (hstep : step < 64) (hj : j < 64) (hq : q < 8)
    (hne : ¬ (r = row ∧ j = step)) :
    cellAddress r j q < cellAddress row step 0 ∨ cellAddress row step 0 + 8 ≤ cellAddress r j q := by
  simp only [cellAddress, cellsPerRow, cellsPerStep]
  omega

/-- Writing a step gives the planes of the set in that step their levels, and leaves every other cell its own
(R123, R125). -/
theorem levelAt_writeStep {m : List Host.Cell} (hm : Memory.wf cellsInMemory m = true) {row step r j q : Nat}
    (hrow : row ≤ 127) (hstep : step < 64) (hj : j < 64) (hq : q < 8) (planes : BitVec 8) (l : Levels) :
    levelAt (writeLevels m (cellAddress row step 0) planes l) (cellAddress r j q) =
      if r = row ∧ j = step ∧ planes.getLsbD q = true then l[q] else levelAt m (cellAddress r j q) := by
  have hfit := cellAddress_add_lt hrow hstep
  by_cases hcell : r = row ∧ j = step
  · obtain ⟨rfl, rfl⟩ := hcell
    have hin := levelAt_writeLevels_in hm hfit planes l ⟨q, hq⟩
    simpa [cellAddress_eq_add r j q] using hin
  · rw [levelAt_writeLevels_out hm hfit planes l (cellAddress_outside hstep hj hq hcell),
      if_neg fun h => hcell ⟨h.1, h.2.1⟩]

/-- A run begins with its first step and goes on with the rest of the run from the next step (R125). -/
theorem writeRun_cons (m : List Host.Cell) (row first : Nat) (planes : BitVec 8) (l : Levels) (ls : List Levels) :
    writeRun m row first planes (l :: ls) =
      writeRun (writeLevels m (cellAddress row first 0) planes l) row (first + 1) planes ls := rfl

/-- Writing a run gives the planes of the set in each step of it the levels carried for that step, and leaves
every other cell its own (R123, R125). -/
theorem levelAt_writeRun {row r j q : Nat} (hrow : row ≤ 127) (hj : j < 64) (hq : q < 8) (planes : BitVec 8)
    (l₀ : Levels) (ls : List Levels) :
    ∀ {first : Nat} {m : List Host.Cell}, first + ls.length ≤ 64 → Memory.wf cellsInMemory m = true →
      levelAt (writeRun m row first planes ls) (cellAddress r j q) =
        if r = row ∧ first ≤ j ∧ j < first + ls.length ∧ planes.getLsbD q = true then
          (ls.getD (j - first) l₀)[q]
        else levelAt m (cellAddress r j q) := by
  induction ls with
  | nil => intro first m _ _; rw [if_neg (by simp; omega)]; rfl
  | cons l ls ih =>
    intro first m hfit hm
    rw [List.length_cons] at hfit
    have hm' := Memory.wf_writeLevels hm (cellAddress_add_lt hrow (by omega : first < 64)) planes l
    rw [writeRun_cons, ih (by omega) hm', levelAt_writeStep hm hrow (by omega) hj hq, List.length_cons]
    rcases Nat.lt_trichotomy j first with hlt | rfl | hgt
    · rw [if_neg (by omega), if_neg (by omega), if_neg (by omega)]
    · simp
    · obtain ⟨k, rfl⟩ := Nat.exists_eq_add_of_lt hgt
      have hrest : first + k + 1 - (first + 1) = k := by omega
      have hcons : first + k + 1 - first = k + 1 := by omega
      have hlo : first + 1 ≤ first + k + 1 ↔ first ≤ first + k + 1 := by omega
      have hhi : first + k + 1 < first + 1 + ls.length ↔ first + k + 1 < first + (ls.length + 1) := by omega
      have hother : ¬ (r = row ∧ first + k + 1 = first ∧ planes.getLsbD q = true) := by omega
      rw [if_neg hother, hrest, hcons, List.getD_cons_succ]
      simp only [hlo, hhi]

/-! ### WRITE_STEPS -/

/-- The level of a plane in a word of step levels stands in two bits, plane 0's on top (R125). -/
theorem unpackLevels_getElem (w : BitVec 16) {q : Nat} (hq : q < 8) :
    (unpackLevels w)[q] = (w >>> (2 * (7 - q))).setWidth 2 := by
  simp [unpackLevels]

/-- A run of carried words, cut to `n` of them, writes each word's levels (R125). -/
theorem levelAt_writeRun_unpack {row first n r j q : Nat} {m : List Host.Cell} {levels : List (BitVec 16)}
    (hm : Memory.wf cellsInMemory m = true) (hrow : row ≤ 127) (hfit : first + n ≤ 64) (hn : n ≤ levels.length)
    (hj : j < 64) (hq : q < 8) (planes : BitVec 8) :
    levelAt (writeRun m row first planes ((levels.take n).map unpackLevels)) (cellAddress r j q) =
      if r = row ∧ first ≤ j ∧ j < first + n ∧ planes.getLsbD q = true then
        ((levels.getD (j - first) 0) >>> (2 * (7 - q))).setWidth 2
      else levelAt m (cellAddress r j q) := by
  have hlen : ((levels.take n).map unpackLevels).length = n := by simpa using hn
  rw [levelAt_writeRun hrow hj hq planes (unpackLevels 0) _ (by omega) hm, hlen]
  refine ite_congr rfl (fun ⟨_, _, hlt, _⟩ => ?_) fun _ => rfl
  have hget : (levels.take n).getD (j - first) 0 = levels.getD (j - first) 0 := by
    simp [List.getD_eq_getElem?_getD, show j - first < n by omega]
  rw [List.getD_map, hget, unpackLevels_getElem _ hq]

/-- The effective plane set is the command's own in ONE_SHOT mode and the held one in HELD mode (R123). -/
theorem State.effectiveSet_eq (s : State) (p : Port) (planes : Byte) :
    s.effectiveSet p planes =
      if (s.writeSetting p).mode = .oneShot then planes else (s.writeSetting p).heldSet := by
  unfold State.effectiveSet
  cases (s.writeSetting p).mode <;> rfl

/-- WRITE_STEPS is refused RANGE for a field out of its range or too few levels, and nothing changes (R125). -/
theorem writeStepsBody_refused {row first count : Byte} {levels : List (BitVec 16)}
    (h : 127 < row.toNat ∨ 63 < first.toNat ∨ levels.length < count.toNat) (p : Port) (planes : Byte) (s : State) :
    writeStepsBody p row first count planes levels s = (s, .bare .range) :=
  if_neg (by omega)

/-- WRITE_STEPS in range writes the run of its carried levels, cut at step 63 (R125). -/
theorem writeStepsBody_written {row first count : Byte} {levels : List (BitVec 16)} (hrow : row.toNat ≤ 127)
    (hfirst : first.toNat ≤ 63) (hcount : count.toNat ≤ levels.length) (p : Port) (planes : Byte) (s : State) :
    writeStepsBody p row first count planes levels s =
      ({ s with
          patternMem := writeRun s.patternMem row.toNat first.toNat (s.effectiveSet p planes)
            ((levels.take (min count.toNat (64 - first.toNat))).map unpackLevels) },
        ⟨takenStatus (decide (64 < first.toNat + count.toNat)),
          [row, first] ++ byte (min count.toNat (64 - first.toNat)) ++ [s.effectiveSet p planes]⟩) :=
  if_pos ⟨hrow, hfirst, hcount⟩

/-- With the clear ended, a WRITE_STEPS that can be taken is answered from its body (R121, R164). -/
theorem exec_writeSteps {p : Port} {row first count planes : Byte} {levels : List (BitVec 16)} {s : State}
    (h : s.canCommand p (.writeSteps p row first count planes levels)) (hclear : s.clearing = false) :
    let b := writeStepsBody p row first count planes levels
      (s.heard p (.writeSteps p row first count planes levels))
    exec (.writeSteps p row first count planes levels) s = answers p 0x40 b.2.status b.2.payload b.1 := by
  change take _ _ _ _ s = _
  rw [take_of_canCommand h, afterClear_of_done (by simpa using hclear)]
  rfl

/-- Settles O40: the body writes one run of steps, and a run's cells are known step by step. -/
theorem writeStepsWritesItsRun : Obligations.WriteStepsWritesItsRun := by
  intro p row first count planes levels s i hcan hclear hmem u eff n
  have hexec := exec_writeSteps hcan hclear
  have heff : u.effectiveSet p planes = eff := by simp [State.effectiveSet_eq, u, eff]
  refine ⟨fun hbad => ?_, fun hrow hfirst hcount => ?_⟩
  · rw [hexec, writeStepsBody_refused hbad]
    rfl
  · have hfit : first.toNat + n ≤ 64 := by omega
    have hn : n ≤ levels.length := by omega
    refine ⟨writeRun s.patternMem row.toNat first.toNat eff ((levels.take n).map unpackLevels), ?_,
      Memory.wf_writeRun hrow eff _ (by simp; omega) hmem.1, fun r j q hj hq =>
        levelAt_writeRun_unpack hmem.1 hrow hfit hn hj hq eff⟩
    rw [hexec, writeStepsBody_written hrow hfirst hcount, heff, State.heard_patternMem]
    simp [takenStatus, byte, n, u, i]

end Sys2Proof.Machine

/-! PROOF. What an operation leaves alone. The state is read as a list of blocks; `Touches bs s t` says that from
`s` to `t` only the blocks of `bs` can have changed. Every command's body and every event has its list, and an
invariant that depends on other blocks alone is kept by it. -/

namespace Sys2Proof.Machine

/-- A port's profile, its opening and its session: what commands other than frames act on (section 9.1). -/
def DeskPort.profile (d : DeskPort) : Bool × Bool × Nat × Nat × Bool × Session :=
  (d.isOpen, d.eligible, d.rank, d.silenceLimit, d.attention, d.session)

/-- A port's command in flight, READY and the instant of the taking (R164). -/
def DeskPort.link (d : DeskPort) : Option Frame × Bool × Option Time := (d.inFlight, d.ready, d.takeAt)

/-- The blocks of the part that an invariant can depend on. -/
inductive Block where
  | rst | time | clear | engine | horizon | run | gen | queue | lastBeat | lead | silence | taps | cues
  | allocations | patternMem | writeSettings | players | claims | lanes | profiles | links | notices

/-- The blocks that a change of the leader field can touch. -/
@[simp] def leadBlocks : List Block := [.lead, .silence, .engine, .taps, .notices]

/-- The blocks that the reaching of a stop point can touch. -/
@[simp] def stopBlocks : List Block := [.run, .engine, .queue, .lastBeat, .players, .lanes, .notices]

/-- The blocks that a step which makes a record or reaches a stop point can touch. -/
@[simp] def makingBlocks : List Block :=
  [.engine, .run, .gen, .queue, .lastBeat, .cues, .players, .lanes, .notices]

/-- A block is the same in two states. -/
def Block.Same (s t : State) : Block → Prop
  | .rst => t.rstLow = s.rstLow
  | .time => t.houseTime = s.houseTime
  | .clear => t.clearing = s.clearing
  | .engine => t.engine = s.engine
  | .horizon => t.transport.horizonMs = s.transport.horizonMs
  | .run => t.transport = { s.transport with horizonMs := t.transport.horizonMs }
  | .gen => t.gen = s.gen
  | .queue => t.queue = s.queue
  | .lastBeat => t.lastBeat = s.lastBeat
  | .lead => t.arbiter = { s.arbiter with silenceExpiry := t.arbiter.silenceExpiry }
  | .silence => t.arbiter.silenceExpiry = s.arbiter.silenceExpiry
  | .taps => t.taps = s.taps
  | .cues => t.cues = s.cues
  | .allocations => t.allocations = s.allocations
  | .patternMem => t.patternMem = s.patternMem
  | .writeSettings => t.writeSettings = s.writeSettings
  | .players => t.players = s.players
  | .claims => t.laneClaims = s.laneClaims ∧ t.playerClaims = s.playerClaims
  | .lanes => t.lanes = s.lanes
  | .profiles => ∀ p, (t.port p).profile = (s.port p).profile
  | .links => ∀ p, (t.port p).link = (s.port p).link
  | .notices => t.notices = s.notices ∧ ∀ p, (t.port p).attn = (s.port p).attn

/-- From `s` to `t` only the blocks of `bs` can have changed. -/
def Touches (bs : List Block) (s t : State) : Prop := ∀ b, b ∉ bs → b.Same s t

theorem Block.Same.refl (s : State) (b : Block) : b.Same s s := by
  cases b <;> simp [Block.Same]

theorem Block.Same.trans {s t u : State} {b : Block} (h : b.Same s t) (h' : b.Same t u) : b.Same s u := by
  cases b with
  | run | lead => rw [Block.Same] at h h' ⊢; rw [h', h]
  | claims => exact ⟨h'.1.trans h.1, h'.2.trans h.2⟩
  | profiles | links => exact fun p => (h' p).trans (h p)
  | notices => exact ⟨h'.1.trans h.1, fun p => (h'.2 p).trans (h.2 p)⟩
  | _ => exact Eq.trans (h' : _ = _) (h : _ = _)

theorem Touches.refl (bs : List Block) (s : State) : Touches bs s s := fun b _ => Block.Same.refl s b

theorem Touches.mono {as bs : List Block} {s t : State} (h : Touches as s t) (hs : as ⊆ bs := by simp) :
    Touches bs s t := fun b hb => h b fun ha => hb (hs ha)

theorem Touches.trans {bs : List Block} {s t u : State} (h : Touches bs s t) (h' : Touches bs t u) :
    Touches bs s u := fun b hb => (h b hb).trans (h' b hb)

/-- A fold touches what each of its steps touches. -/
theorem Touches.foldl {α : Type} {bs : List Block} {f : State → α → State}
    (hf : ∀ s a, Touches bs s (f s a)) (l : List α) (s : State) : Touches bs s (l.foldl f s) := by
  induction l generalizing s with
  | nil => exact Touches.refl bs s
  | cons a l ih => exact (hf s a).trans (ih (f s a))

/-! ### The setters -/

section Setters

variable (s : State)

theorem touches_engine (x : Engine) : Touches [.engine] s { s with engine := x } := by
  rintro ⟨⟩ <;> simp [Block.Same, State.port]
theorem touches_gen (x : Generator) : Touches [.gen] s { s with gen := x } := by
  rintro ⟨⟩ <;> simp [Block.Same, State.port]
theorem touches_queue (x : List PulseRecord) : Touches [.queue] s { s with queue := x } := by
  rintro ⟨⟩ <;> simp [Block.Same, State.port]
theorem touches_taps (x : Vector Tap 4) : Touches [.taps] s { s with taps := x } := by
  rintro ⟨⟩ <;> simp [Block.Same, State.port]
theorem touches_cues (x : List Cue) : Touches [.cues] s { s with cues := x } := by
  rintro ⟨⟩ <;> simp [Block.Same, State.port]
theorem touches_allocations (x : Vector Nat 4) : Touches [.allocations] s { s with allocations := x } := by
  rintro ⟨⟩ <;> simp [Block.Same, State.port]
theorem touches_patternMem (x : List Host.Cell) : Touches [.patternMem] s { s with patternMem := x } := by
  rintro ⟨⟩ <;> simp [Block.Same, State.port]
theorem touches_writeSettings (x : Vector WriteSettings 4) :
    Touches [.writeSettings] s { s with writeSettings := x } := by
  rintro ⟨⟩ <;> simp [Block.Same, State.port]
theorem touches_players (x : Vector Player 4) : Touches [.players] s { s with players := x } := by
  rintro ⟨⟩ <;> simp [Block.Same, State.port]
theorem touches_claims (x : Vector (Option Port) 16) (y : Vector (Option Port) 4) :
    Touches [.claims] s { s with laneClaims := x, playerClaims := y } := by
  rintro ⟨⟩ <;> simp [Block.Same, State.port]
theorem touches_lanes (x : Vector Lane 16) : Touches [.lanes] s { s with lanes := x } := by
  rintro ⟨⟩ <;> simp [Block.Same, State.port]
theorem touches_pending (x : List Instr) : Touches [] s { s with pending := x } := by
  rintro ⟨⟩ <;> simp [Block.Same, State.port]

/-- The change of a port's profile. -/
theorem touches_setPort_profile (p : Port) (d : DeskPort) (hl : d.link = (s.port p).link)
    (ha : d.attn = (s.port p).attn) : Touches [.profiles] s (s.setPort p d) := by
  rintro ⟨⟩ <;> simp [Block.Same, State.setPort_port] <;> intro q <;> split <;> simp_all

/-- The change of a port's link. -/
theorem touches_setPort_link (p : Port) (d : DeskPort) (hp : d.profile = (s.port p).profile)
    (ha : d.attn = (s.port p).attn) : Touches [.links] s (s.setPort p d) := by
  rintro ⟨⟩ <;> simp [Block.Same, State.setPort_port] <;> intro q <;> split <;> simp_all

/-- The change of a port's ATTN. -/
theorem touches_setPort_attn (p : Port) (d : DeskPort) (hp : d.profile = (s.port p).profile)
    (hl : d.link = (s.port p).link) : Touches [.notices] s (s.setPort p d) := by
  rintro ⟨⟩ <;> simp [Block.Same, State.setPort_port] <;> intro q <;> split <;> simp_all

theorem touches_setNoticeQueue (p : Port) (q : NoticeQueue) : Touches [.notices] s (s.setNoticeQueue p q) := by
  rintro ⟨⟩ <;> simp [Block.Same]

/-! ### Frames, answers and notices -/

theorem restartSilence_touches (p : Port) : Touches [.silence] s (s.restartSilence p) := by
  rintro ⟨⟩ <;> simp [Block.Same]
  unfold State.restartSilence
  split <;> rfl

theorem frameEnds_touches (p : Port) (out : List Byte) : Touches [.silence] s (s.frameEnds p out) := by
  unfold State.frameEnds
  refine Touches.trans ?_ (restartSilence_touches _ p)
  rintro ⟨⟩ <;> simp [Block.Same, State.setPort_port] <;> intro q <;> split <;>
    simp_all [DeskPort.profile, DeskPort.link]

theorem heard_touches (p : Port) (i : Instr) : Touches [.silence] s (s.heard p i) := by
  unfold State.heard
  split
  · exact frameEnds_touches s p _
  · exact Touches.refl _ s

theorem answered_touches (p : Port) (code : Byte) (a : Answer) : Touches [.links] s (s.answered p code a) :=
  touches_setPort_link s p _ rfl rfl

/-- An accepted frame ends and then stands in flight. -/
theorem accept_touches_link (p : Port) (code : Byte) (rest : List Byte) :
    Touches [.links] (s.frameEnds p (List.replicate (rest.length + 1) 0)) (s.accept p code rest) :=
  touches_setPort_link (s.frameEnds p _) p _ rfl rfl

theorem accept_touches (p : Port) (code : Byte) (rest : List Byte) :
    Touches [.silence, .links] s (s.accept p code rest) :=
  (frameEnds_touches s p _).mono.trans (accept_touches_link s p code rest).mono

theorem refreshAttn_touches (p : Port) : Touches [.notices] s (s.refreshAttn p) :=
  touches_setPort_attn s p _ rfl rfl

theorem give_touches (p : Port) (n : Notice) : Touches [.notices] s (s.give p n) := by
  unfold State.give
  split
  · exact (touches_setNoticeQueue s p _).trans (refreshAttn_touches _ p)
  · exact Touches.refl _ s

theorem postAt_touches (p : Port) (b : NoticeBody) (x : Option Position) :
    Touches [.notices] s (s.postAt p b x) := by
  unfold State.postAt
  split
  · exact give_touches s p _
  · exact Touches.refl _ s

theorem post_touches (p : Port) (b : NoticeBody) : Touches [.notices] s (s.post p b) := postAt_touches s p b _

theorem postAll_touches (b : NoticeBody) : Touches [.notices] s (s.postAll b) :=
  Touches.foldl (fun s p => post_touches s p b) _ s

/-! ### What depends on some blocks alone -/

/-- A predicate depends on some blocks alone: it holds in every state that has them as a state where it holds. -/
structure DependsOn (D : List Block) (P : State → Prop) : Prop where
  carry : ∀ s t : State, (∀ b ∈ D, b.Same s t) → P s → P t

/-- What does not touch the blocks a predicate depends on keeps it. -/
theorem DependsOn.keep {D bs : List Block} {P : State → Prop} {s t : State} (hD : DependsOn D P)
    (h : Touches bs s t) (hs : P s) (hd : ∀ b ∈ D, b ∉ bs := by simp) : P t :=
  hD.carry s t (fun b hb => h b (hd b hb)) hs

/-! ### Leadership and taps -/

theorem setLeader_touches (l : Leader) : Touches [.lead, .engine, .taps] s (s.setLeader l) := by
  rintro ⟨⟩ <;> simp [Block.Same, State.setLeader, State.clearSlip, State.port]

theorem stopSilence_touches : Touches [.silence] s s.stopSilence := by
  rintro ⟨⟩ <;> simp [Block.Same, State.stopSilence, State.port]

theorem emptySlot_touches : Touches [.lead] s s.emptySlot := by
  rintro ⟨⟩ <;> simp [Block.Same, State.emptySlot, State.port]

theorem fillSlot_touches (b : Bid) : Touches [.lead] s (s.fillSlot b) := by
  rintro ⟨⟩ <;> simp [Block.Same, State.fillSlot, State.port]

theorem freewheels_touches (r : FreewheelReason) : Touches leadBlocks s (s.freewheels r) := by
  unfold leadBlocks
  exact ((setLeader_touches s _).mono.trans (stopSilence_touches _).mono).trans (postAll_touches _ _).mono

theorem grantEngine_touches (b : Bid) (r : Route) : Touches [.engine] s (s.grantEngine b r).1 := by
  unfold State.grantEngine
  split
  · exact Touches.refl _ s
  · exact touches_engine s _

theorem grantLost_touches (l : Leader) (b : Bid) (r : Route) : Touches [.notices] s (s.grantLost l b r) := by
  unfold State.grantLost
  split
  · exact post_touches s _ _
  · exact post_touches s _ _
  · exact Touches.refl _ s

theorem grant_touches (b : Bid) (r : Route) : Touches leadBlocks s (s.grant b r) := by
  unfold leadBlocks
  exact ((((((setLeader_touches s _).mono.trans (emptySlot_touches _).mono).trans
    (stopSilence_touches _).mono).trans (restartSilence_touches _ _).mono).trans
    (grantEngine_touches _ b r).mono).trans (grantLost_touches _ _ b r).mono).trans (post_touches _ _ _).mono

theorem enterSlot_touches (b : Bid) (y : Port) : Touches [.lead, .notices] s (s.enterSlot b y) :=
  (fillSlot_touches s b).mono.trans (post_touches _ _ _).mono

theorem changeTap_touches (t : Fin 4) (v : Tap) (c : TapCause) : Touches leadBlocks s (s.changeTap t v c) := by
  have hset : Touches leadBlocks s (s.setTap t v) := (touches_taps s _).mono (by simp [leadBlocks])
  have hpost : ∀ u b, Touches leadBlocks u (u.postAll b) :=
    fun u b => (postAll_touches u b).mono (by simp [leadBlocks])
  unfold State.changeTap
  dsimp only
  split
  · exact hset
  · split
    · exact (hset.trans (hpost _ _)).trans (freewheels_touches _ _)
    · exact hset.trans (hpost _ _)

/-! ### Transport and the horizon queue -/

theorem touches_state (st : TransportState) :
    Touches [.run] s { s with transport := { s.transport with state := st } } := by
  rintro ⟨⟩ <;> simp [Block.Same, State.port]

theorem withLaunch_touches (t : Time) : Touches [.run] s (s.withLaunch t) := by
  rintro ⟨⟩ <;> simp [Block.Same, State.port, State.withLaunch]

theorem touches_stopPoint (x : Option Position) :
    Touches [.run] s { s with transport := { s.transport with stopPoint := x } } := by
  rintro ⟨⟩ <;> simp [Block.Same, State.port]

theorem enter_touches (st : TransportState) : Touches [.run, .notices] s (s.enter st) :=
  (touches_state s st).mono.trans (postAll_touches _ _).mono

theorem toStopped_touches : Touches [.run, .engine, .lastBeat, .notices] s s.toStopped := by
  refine Touches.trans ?_ (enter_touches _ .stopped).mono
  rintro ⟨⟩ <;> simp [Block.Same, State.port, State.clearSlip]

theorem reachStop_touches : Touches stopBlocks s s.reachStop := by
  unfold stopBlocks State.reachStop
  dsimp only
  refine Touches.trans (t := s.playersStop) (Touches.mono (as := [.players]) (touches_players s _)) ?_
  split
  · refine Touches.trans (Touches.mono (as := [.run, .queue]) ?_)
      (Touches.trans (Touches.mono (as := [.lanes]) (touches_lanes _ _)) (enter_touches _ _).mono)
    rintro ⟨⟩ <;> simp [Block.Same, State.port]
  · exact (toStopped_touches _).mono

theorem setStop_touches (x : Position) : Touches stopBlocks s (s.setStop x) := by
  have hset := touches_stopPoint s (some x)
  unfold State.setStop
  split
  · exact reachStop_touches s
  · dsimp only
    split
    · exact (hset.mono (by simp [stopBlocks])).trans ((enter_touches _ _).mono (by simp [stopBlocks]))
    · exact hset.mono (by simp [stopBlocks])

theorem dropAllCues_touches : Touches [.cues, .notices] s s.dropAllCues :=
  Touches.trans (Touches.mono (as := [.notices]) (Touches.foldl (fun s (c : Cue) => post_touches s c.owner _) s.cues s))
    (touches_cues _ []).mono

theorem drained_touches : Touches [.queue, .run, .engine, .lastBeat, .notices] s s.drained :=
  (touches_queue s []).mono.trans (toStopped_touches _).mono

theorem retire_touches : Touches [.queue, .run, .engine, .lastBeat, .notices] s s.retire := by
  unfold State.retire
  split
  · exact Touches.refl _ s
  · split
    · exact drained_touches s
    · exact (touches_queue s _).mono

theorem giveEntry_touches (r : PulseRecord) (e : SoundEntry) : Touches [.notices] s (s.giveEntry r e) := by
  unfold State.giveEntry
  split
  · exact Touches.foldl (fun s b => give_touches s e.port _) e.bodies s
  · exact Touches.refl _ s

theorem sound_touches (r : PulseRecord) : Touches [.queue, .notices] s (s.sound r) :=
  (touches_queue s _).mono.trans
    (Touches.mono (as := [.notices]) (Touches.foldl (fun s e => giveEntry_touches s r e) r.sounds _))

/-! ### The making of a record -/

theorem fire_touches (f : Firing) (c : Cue) :
    Touches [.cues, .players, .engine] f.state ((f.remove c).act c).state := by
  rw [Firing.act_frame]
  let g := f.remove c
  have hc : Touches [.cues] f.state g.state := touches_cues f.state _
  have hp := touches_players g.state (g.act c).state.players
  have he := touches_engine { g.state with players := (g.act c).state.players } (g.act c).state.engine
  exact (hc.mono.trans hp.mono).trans he.mono

theorem fireCues_touches : Touches [.cues, .players, .engine] s s.fireCues.state := by
  unfold State.fireCues
  suffices h : ∀ (l : List Cue) (f : Firing), Touches [.cues, .players, .engine] f.state
      (l.foldl (fun f c => (f.remove c).act c) f).state from h _ _
  intro l
  induction l with
  | nil => exact fun f => Touches.refl _ _
  | cons c l ih => exact fun f => (fire_touches f c).trans (ih _)

theorem postGiven_touches (made : Bool) (x : Position) (g : List (Port × NoticeBody)) :
    Touches [.notices] s (s.postGiven made x g) :=
  Touches.foldl (fun s g => by
    split
    · exact Touches.refl _ s
    · exact postAt_touches s _ _ _) g s

theorem applyMeter_touches : Touches [.engine] s s.applyMeter := by
  unfold State.applyMeter
  split
  · exact touches_engine s _
  · exact Touches.refl _ s

theorem append_touches (r : PulseRecord) : Touches [.queue, .lastBeat, .lanes] s (s.append r) := by
  rintro ⟨⟩ <;> simp [Block.Same, State.port, State.append]

theorem stepOn_touches : Touches [.engine, .gen, .cues] s s.stepOn := by
  rintro ⟨⟩ <;> simp [Block.Same, State.port, State.stepOn]

theorem wrapDrop_touches (x : Position) (m : Nat) : Touches [.cues, .notices] s (s.wrapDrop x m) := by
  unfold State.wrapDrop
  split
  · exact dropAllCues_touches s
  · exact Touches.refl _ s

theorem makeRecord_touches (launch : Bool) (f : Firing) :
    Touches [.engine, .gen, .queue, .lastBeat, .cues, .players, .lanes, .notices] f.state (makeRecord launch f) := by
  exact (((((applyMeter_touches _).mono.trans (postGiven_touches _ _ _ _).mono).trans
    (Touches.mono (as := [.players]) (touches_players _ _))).trans (append_touches _ _).mono).trans
    (stepOn_touches _).mono).trans (wrapDrop_touches _ _ _).mono

theorem stopStep_touches (f : Firing) : Touches stopBlocks f.state (stopStep f) :=
  (Touches.trans (Touches.mono (as := [.lanes]) (touches_lanes _ _) (by simp [stopBlocks]))
    ((postGiven_touches _ _ _ _).mono (by simp [stopBlocks]))).trans (reachStop_touches _)

theorem generate_touches : Touches makingBlocks s s.generate := by
  have hfire := (fireCues_touches s).mono (bs := makingBlocks) (by simp [makingBlocks])
  unfold State.generate
  dsimp only
  split
  · exact (reachStop_touches s).mono (by simp [makingBlocks, stopBlocks])
  · split
    · exact hfire.trans ((stopStep_touches _).mono (by simp [makingBlocks, stopBlocks]))
    · exact hfire.trans ((makeRecord_touches _ _).mono (by simp [makingBlocks]))

theorem setLaunchN_touches : Touches [.gen] s s.setLaunchN := by
  unfold State.setLaunchN
  split
  · exact touches_gen s _
  · exact Touches.refl _ s

theorem launch_touches : Touches makingBlocks s s.launch := by
  have hfire := (fireCues_touches s).mono (bs := makingBlocks) (by simp [makingBlocks])
  unfold State.launch
  dsimp only
  split
  · exact (reachStop_touches s).mono (by simp [makingBlocks, stopBlocks])
  · split
    · exact hfire.trans ((stopStep_touches _).mono (by simp [makingBlocks, stopBlocks]))
    · exact ((hfire.trans ((setLaunchN_touches _).mono (by simp [makingBlocks]))).trans
        ((makeRecord_touches true { s.fireCues with state := s.fireCues.state.setLaunchN }).mono
          (by simp [makingBlocks]))).trans
        ((enter_touches _ _).mono (by simp [makingBlocks]))

end Setters

end Sys2Proof.Machine

/-! PROOF. One step, for a proof that goes over all of them: the body that a command of a port runs, the blocks that
a command's body or an event can touch, and the principles that lead a statement about a step to the bodies and
the events. -/

namespace Sys2Proof.Machine

/-- The port of a command that a frame spells, its code, and the body that runs when it is taken (R164, R167). -/
def commandBody : Instr → Option (Port × Byte × (State → State × Answer))
  | .openPort p => some (p, 0x01, openBody p)
  | .closePort p => some (p, 0x02, fun s => (s.closePort p, .bare .ok))
  | .setProfile p eligible rank silenceLimit attention => some (p, 0x03,
    setProfileBody p eligible rank silenceLimit attention)
  | .readProfile p => some (p, 0x04, readProfileBody p)
  | .readIdentity p => some (p, 0x05, readIdentityBody)
  | .setTempo p tempo glide => some (p, 0x10, asLeader p (setTempoBody tempo glide))
  | .nudge p delta => some (p, 0x11, asLeader p (nudgeBody delta))
  | .setMeter p meter => some (p, 0x12, asLeader p (setMeterBody meter))
  | .start p launch => some (p, 0x13, asLeader p (startBody launch))
  | .stop p quantize => some (p, 0x14, asLeader p (stopBody quantize))
  | .locate p bar beat => some (p, 0x15, asLeader p (locateBody bar beat))
  | .gridReset p => some (p, 0x16, asLeader p gridResetBody)
  | .setHorizon p ms => some (p, 0x17, setHorizonBody ms)
  | .readPosition p => some (p, 0x18, readPositionBody)
  | .bid p kind wait tempo beatRef glide => some (p, 0x20, bidBody p kind wait tempo beatRef glide)
  | .yieldLead p => some (p, 0x21, asLeader p yieldBody)
  | .refuse p => some (p, 0x22, asLeader p (refuseBody p))
  | .withdraw p => some (p, 0x24, withdrawBody p)
  | .release p => some (p, 0x23, asLeader p releaseBody)
  | .keep p => some (p, 0x25, asLeader p fun s => (s, .bare .ok))
  | .handToTap p tap => some (p, 0x26, asLeader p (handToTapBody tap))
  | .readLeadership p => some (p, 0x27, readLeadershipBody p)
  | .setTap p tap k offset => some (p, 0x30, setTapBody tap k offset)
  | .tapClear p tap => some (p, 0x31, tapClearBody tap)
  | .readTap p tap => some (p, 0x32, readTapBody tap)
  | .setAllocation p n => some (p, 0x38, setAllocationBody p n)
  | .scheduleCue p cue => some (p, 0x39, scheduleCueBody p cue)
  | .cancelCue p id tag => some (p, 0x3A, cancelCueBody p id tag)
  | .readCues p first => some (p, 0x3B, readCuesBody p first)
  | .writeSteps p row first count planes levels => some (p, 0x40,
    afterClear (writeStepsBody p row first count planes levels))
  | .readSteps p row first count => some (p, 0x41, afterClear (readStepsBody row first count))
  | .loadMask p planes => some (p, 0x42, afterClear (loadMaskBody p planes))
  | .maskReset p => some (p, 0x43, afterClear (maskResetBody p))
  | .loadFill p levels => some (p, 0x44, afterClear (loadFillBody p levels))
  | .blockFill p row step positions planes => some (p, 0x45,
    afterClear (blockFillBody p row step positions planes))
  | .rowFill p row planes => some (p, 0x46, afterClear (rowFillBody p row planes))
  | .loadRow p player row tap => some (p, 0x48,
    afterClear (withPlayer p player (decide (row.toNat ≤ 127 ∧ tap.toNat ≤ 63)) (loadRowBody row.toNat tap.toNat)))
  | .halfLoad p player row tap => some (p, 0x49,
    afterClear (withPlayer p player (decide (row.toNat ≤ 127 ∧ tap.toNat ≤ 31)) (halfLoadBody row.toNat tap.toNat)))
  | .setStepLength p player length => some (p, 0x4A,
    afterClear (withPlayer p player true (setStepLengthBody length.toNat)))
  | .readPlayer p player withRegister => some (p, 0x4B, afterClear (readPlayerBody player withRegister))
  | .claimLanes p first count => some (p, 0x50, claimLanesBody p first count)
  | .releaseLanes p first count => some (p, 0x51, releaseLanesBody p first count)
  | .claimPlayer p first count => some (p, 0x52, claimPlayerBody p first count)
  | .releasePlayer p first count => some (p, 0x53, releasePlayerBody p first count)
  | .setLane p lane r => some (p, 0x54, setLaneBody p lane r)
  | .mute p lanes => some (p, 0x55, muteBody p lanes .muted)
  | .unmute p lanes => some (p, 0x56, muteBody p lanes .unmuted)
  | .readLane p lane => some (p, 0x57, readLaneBody lane)
  | .setNotices p kinds timing => some (p, 0x60, setNoticesBody p kinds timing)
  | .readNotices p => some (p, 0x61, readNoticesBody p)
  | _ => none

/-- The blocks that a command's body or an event can touch. -/
@[simp] def touched : Instr → List Block
  | .reset .. =>
    [.rst, .time, .clear, .engine, .horizon, .run, .gen, .queue, .lastBeat, .lead, .silence, .taps, .cues,
      .allocations, .writeSettings, .players, .claims, .lanes, .profiles, .links, .notices]
  | .resetRelease .. => [.rst, .time, .clear]
  | .patternClearEnd .. => [.clear, .patternMem]
  | .openPort .. => [.profiles]
  | .closePort .. => [.lead, .silence, .engine, .taps, .notices, .claims, .cues, .writeSettings, .profiles]
  | .setProfile .. => [.profiles, .silence, .notices]
  | .setTempo .. | .nudge .. | .setMeter .. => [.engine]
  | .start .. => [.run, .notices]
  | .stop .. => [.run, .engine, .queue, .lastBeat, .players, .lanes, .notices]
  | .locate .. => [.gen, .cues, .notices]
  | .gridReset .. => [.gen, .cues, .players, .notices]
  | .setHorizon .. => [.horizon, .lanes]
  | .bid .. | .yieldLead .. | .release .. | .waitTimerExpiry .. | .silenceTimerExpiry .. | .tapEdge ..
  | .tapSilenceDeadline .. | .setTap .. | .tapClear .. => [.lead, .silence, .engine, .taps, .notices]
  | .refuse .. => [.lead, .notices]
  | .withdraw .. => [.lead]
  | .handToTap .. => [.lead, .silence, .engine, .taps]
  | .setAllocation .. => [.allocations]
  | .scheduleCue .. | .cancelCue .. => [.cues]
  | .writeSteps .. | .blockFill .. | .rowFill .. => [.patternMem]
  | .loadMask .. | .maskReset .. | .loadFill .. => [.writeSettings]
  | .loadRow .. | .halfLoad .. | .setStepLength .. => [.players]
  | .claimLanes .. | .releaseLanes .. | .claimPlayer .. | .releasePlayer .. => [.claims]
  | .setLane .. | .mute .. | .unmute .. | .laneProcessing .. | .pulseEnd .. | .runEnd .. => [.lanes]
  | .setNotices .. | .readNotices .. => [.notices]
  | .launchStep .. | .generatorStep .. =>
    [.engine, .run, .gen, .queue, .lastBeat, .cues, .players, .lanes, .notices]
  | .recordSounds .. => [.queue, .notices]
  | .recordRetires .. | .drainingEnd .. => [.queue, .run, .engine, .lastBeat, .notices]
  | _ => []

/-- A command's meaning is the taking of its body. -/
theorem exec_of_commandBody {i : Instr} {p : Port} {c : Byte} {b : State → State × Answer}
    (h : commandBody i = some (p, c, b)) (s : State) : exec i s = take p c i b s := by
  cases i <;> simp only [commandBody, Option.some.injEq, Prod.mk.injEq, reduceCtorEq] at h <;>
    obtain ⟨rfl, rfl, rfl⟩ := h <;> rfl

/-- A row of a port that no frame spells is the end of a frame or a frame that spells no command. -/
theorem commandBody_eq_none {i : Instr} {p : Port} (h : commandBody i = none) (hp : i.port? = some p) :
    (∃ code rest, i = .commandFrame p code rest) ∨ (∃ f, i = .fetchFrame p f) ∨ i = .emptyFrame p
      ∨ ∃ code rest, i = .unknownCommand p code rest := by
  cases i <;> simp_all [commandBody, Instr.port?]

/-! ### What a body can touch -/

section Bodies

variable {s : State} {bs : List Block} {body : State → State × Answer} {p : Port}

theorem asLeader_cases (p : Port) (body : State → State × Answer) (s : State) :
    (asLeader p body s).1 = s ∨ s.arbiter.leader = .port p ∧ (asLeader p body s).1 = (body s).1 := by
  by_cases h : s.arbiter.leader = .port p
  · exact .inr ⟨h, by rw [asLeader_of_leads h]⟩
  · exact .inl (by rw [asLeader_of_not h])

theorem afterClear_cases (body : State → State × Answer) (s : State) :
    (afterClear body s).1 = s ∨ (afterClear body s).1 = (body s).1 := by
  unfold afterClear
  split
  · exact .inl rfl
  · exact .inr rfl

theorem withPlayer_cases (p : Port) (player : Byte) (ok : Bool) (body : Fin 4 → State → State × Answer) (s : State) :
    (withPlayer p player ok body s).1 = s
      ∨ ∃ i, ok = true ∧ (withPlayer p player ok body s).1 = (body i s).1 := by
  unfold withPlayer
  split
  · exact .inl rfl
  · split
    · split
      · exact .inr ⟨_, ‹_›, rfl⟩
      · exact .inl rfl
    · exact .inl rfl

theorem asLeader_touches (h : Touches bs s (body s).1) : Touches bs s (asLeader p body s).1 := by
  obtain e | ⟨-, e⟩ := asLeader_cases p body s <;> rw [e]
  · exact Touches.refl bs s
  · exact h

theorem afterClear_touches (h : Touches bs s (body s).1) : Touches bs s (afterClear body s).1 := by
  obtain e | e := afterClear_cases body s <;> rw [e]
  · exact Touches.refl bs s
  · exact h

theorem withPlayer_touches {player : Byte} {ok : Bool} {body : Fin 4 → State → State × Answer}
    (h : ∀ i, Touches bs s (body i s).1) : Touches bs s (withPlayer p player ok body s).1 := by
  obtain e | ⟨i, -, e⟩ := withPlayer_cases p player ok body s <;> rw [e]
  · exact Touches.refl bs s
  · exact h i

end Bodies

end Sys2Proof.Machine

namespace Sys2Proof.Machine

/-- What holds of the body of a command, where the row is one. -/
def ForBody (i : Instr) (R : Port → Byte → (State → State × Answer) → Prop) : Prop :=
  match commandBody i with
  | some (p, c, b) => R p c b
  | none => True

theorem ForBody.elim {i : Instr} {R : Port → Byte → (State → State × Answer) → Prop} {p : Port} {c : Byte}
    {b : State → State × Answer} (h : ForBody i R) (hb : commandBody i = some (p, c, b)) : R p c b := by
  unfold ForBody at h
  rwa [hb] at h

theorem ForBody.intro {i : Instr} {R : Port → Byte → (State → State × Answer) → Prop}
    (h : ∀ p c b, commandBody i = some (p, c, b) → R p c b) : ForBody i R := by
  unfold ForBody
  split
  · exact h _ _ _ ‹_›
  · trivial

/-- The arbiter's part of a close touches the lead. -/
theorem arbiterCloses_touches (s : State) (p : Port) : Touches leadBlocks s (s.arbiterCloses p) := by
  unfold State.arbiterCloses
  split
  · split
    · exact grant_touches s _ _
    · exact freewheels_touches s _
  · split
    · exact (emptySlot_touches s).mono (by simp [leadBlocks])
    · exact Touches.refl _ s

theorem emptyNotices_touches (s : State) (p : Port) : Touches [.notices] s (s.emptyNotices p) :=
  (touches_setNoticeQueue s p _).trans (refreshAttn_touches _ p)

/-- What a close does after the arbiter's part touches the claims, the pool, the write settings and the notices. -/
theorem closeRest_touches (s : State) (p : Port) : Touches [.claims, .cues, .writeSettings, .notices] s
    ((((s.releaseClaims p).removeCues p).setWriteSetting p WriteSettings.reset).emptyNotices p) := by
  have hclaims : Touches [.claims] s (s.releaseClaims p) := touches_claims s _ _
  have hcues : ∀ u : State, Touches [.cues] u (u.removeCues p) := fun u => touches_cues u _
  have hwrite : ∀ u : State, Touches [.writeSettings] u (u.setWriteSetting p WriteSettings.reset) :=
    fun u => touches_writeSettings u _
  exact ((hclaims.mono.trans (hcues _).mono).trans (hwrite _).mono).trans (emptyNotices_touches _ p).mono

/-- The closing of a port touches the lead, the claims, the pool, the write settings and the notices. -/
theorem closePort_touches (s : State) (p : Port) :
    Touches [.lead, .silence, .engine, .taps, .notices, .claims, .cues, .writeSettings, .profiles] s
      (s.closePort p) := by
  have hmark : Touches [.profiles] s (s.markClosed p) := touches_setPort_profile s p _ rfl rfl
  exact (hmark.mono.trans ((arbiterCloses_touches _ p).mono (by simp [leadBlocks]))).trans (closeRest_touches _ p).mono

section BodyTouches

variable (s : State)

theorem Touches.of_eq {bs : List Block} {s t : State} (h : t = s) : Touches bs s t := h ▸ Touches.refl bs s

theorem takeProfile_touches (p : Port) (e : Bool) (r l : Nat) (a : Bool) :
    Touches [.profiles, .silence, .notices] s (s.takeProfile p e r l a) := by
  unfold State.takeProfile
  have hset : Touches [.profiles] s (s.setPort p
      { s.port p with eligible := e, rank := r, silenceLimit := l, attention := a }) :=
    touches_setPort_profile s p _ rfl rfl
  exact (hset.mono.trans (restartSilence_touches _ p).mono).trans (refreshAttn_touches _ p).mono

theorem openBody_touches (p : Port) :
    Touches [.profiles] s (openBody p s).1 := by
  unfold openBody
  split
  · exact Touches.refl _ s
  · exact touches_setPort_profile s p _ rfl rfl

theorem setProfileBody_touches (p : Port) (e r l a : Byte) :
    Touches [.profiles, .silence, .notices] s (setProfileBody p e r l a s).1 := by
  unfold setProfileBody
  split
  · split
    · exact Touches.refl _ s
    · exact takeProfile_touches s p _ _ _ _
  · exact Touches.refl _ s

theorem nudgeBody_touches (d : BitVec 32) :
    Touches [.engine] s (nudgeBody d s).1 := by
  unfold nudgeBody
  split
  · exact Touches.refl _ s
  · exact touches_engine s _

theorem setMeterBody_touches (m : Byte) :
    Touches [.engine] s (setMeterBody m s).1 := by
  unfold setMeterBody
  split
  · exact touches_engine s _
  · exact Touches.refl _ s

theorem startBody_touches (l : Time) :
    Touches [.run, .notices] s (startBody l s).1 := by
  unfold startBody
  split
  · exact (withLaunch_touches s _).mono.trans (enter_touches _ _).mono
  · exact (withLaunch_touches s _).mono
  · exact Touches.refl _ s
  · exact (touches_stopPoint s none).mono.trans (enter_touches _ _).mono
  · exact Touches.refl _ s

theorem stopBody_touches (q : Byte) :
    Touches [.run, .engine, .queue, .lastBeat, .players, .lanes, .notices] s (stopBody q s).1 := by
  unfold stopBody
  split
  · exact Touches.refl _ s
  · split
    · exact Touches.refl _ s
    · exact (toStopped_touches s).mono
    · exact setStop_touches s _
    · exact setStop_touches s _
    · exact Touches.refl _ s

theorem locateBody_touches (b : BitVec 16) (x : Byte) :
    Touches [.gen, .cues, .notices] s (locateBody b x s).1 := by
  unfold locateBody
  split
  · exact (touches_gen s _).mono.trans (dropAllCues_touches _).mono
  · exact Touches.refl _ s

theorem gridResetBody_touches :
    Touches [.gen, .cues, .players, .notices] s (gridResetBody s).1 := by
  unfold gridResetBody
  split
  · exact ((touches_gen s _).mono.trans (dropAllCues_touches _).mono).trans (touches_players _ _).mono
  · exact Touches.refl _ s

theorem setHorizonBody_touches (ms : Byte) :
    Touches [.horizon, .lanes] s (setHorizonBody ms s).1 := by
  unfold setHorizonBody
  split
  · refine Touches.trans ?_ (touches_lanes _ _).mono
    rintro ⟨⟩ <;> simp [Block.Same, State.port]
  · exact Touches.refl _ s

theorem bidBody_touches (p : Port) (k : Byte) (w c : BitVec 16) (r : Time) (g : Byte) :
    Touches [.lead, .silence, .engine, .taps, .notices] s (bidBody p k w c r g s).1 := by
  unfold bidBody
  split
  · exact Touches.refl _ s
  · split
    · unfold placeBid
      split
      · split
        · exact Touches.refl _ s
        · split
          · exact (enterSlot_touches s _ _).mono
          · split
            · exact (enterSlot_touches s _ _).mono
            · split
              · exact (post_touches s _ _).mono.trans (enterSlot_touches _ _ _).mono
              · exact Touches.refl _ s
      · exact grant_touches s _ _
      · exact grant_touches s _ _
    · exact Touches.refl _ s

theorem yieldBody_touches :
    Touches [.lead, .silence, .engine, .taps, .notices] s (yieldBody s).1 := by
  unfold yieldBody
  split
  · exact Touches.refl _ s
  · exact grant_touches s _ _

theorem refuseBody_touches (p : Port) :
    Touches [.lead, .notices] s (refuseBody p s).1 := by
  unfold refuseBody
  split
  · exact Touches.refl _ s
  · exact (emptySlot_touches s).mono.trans (post_touches _ _ _).mono

theorem withdrawBody_touches (p : Port) :
    Touches [.lead] s (withdrawBody p s).1 := by
  unfold withdrawBody
  split
  · exact emptySlot_touches s
  · exact Touches.refl _ s

theorem releaseBody_touches :
    Touches [.lead, .silence, .engine, .taps, .notices] s (releaseBody s).1 := by
  unfold releaseBody
  dsimp only
  split
  · exact grant_touches s _ _
  · exact freewheels_touches s _

theorem handToTapBody_touches (t : Byte) :
    Touches [.lead, .silence, .engine, .taps] s (handToTapBody t s).1 := by
  unfold handToTapBody
  split
  · exact Touches.refl _ s
  · split
    · exact Touches.refl _ s
    · split
      · exact (setLeader_touches s _).mono.trans (stopSilence_touches _).mono
      · exact Touches.refl _ s

theorem setTapBody_touches (t k : Byte) (o : BitVec 32) :
    Touches [.lead, .silence, .engine, .taps, .notices] s (setTapBody t k o s).1 := by
  unfold setTapBody
  split
  · dsimp only
    split
    · exact Touches.mono (as := [.taps]) (touches_taps s _)
    · exact changeTap_touches s _ _ _
  · exact Touches.refl _ s

theorem tapClearBody_touches (t : Byte) :
    Touches [.lead, .silence, .engine, .taps, .notices] s (tapClearBody t s).1 := by
  unfold tapClearBody
  split
  · exact Touches.refl _ s
  · split
    · exact Touches.mono (as := [.taps]) (touches_taps s _)
    · exact changeTap_touches s _ _ _

theorem readTapBody_state (t : Byte) : (readTapBody t s).1 = s := by
  unfold readTapBody
  split <;> rfl

theorem setAllocationBody_touches (p : Port) (n : Byte) :
    Touches [.allocations] s (setAllocationBody p n s).1 := by
  unfold setAllocationBody
  split
  · exact Touches.refl _ s
  · split
    · exact Touches.refl _ s
    · exact touches_allocations s _

theorem scheduleCueBody_touches (p : Port) (c : RawCue) :
    Touches [.cues] s (scheduleCueBody p c s).1 := by
  unfold scheduleCueBody
  repeat' split
  any_goals exact Touches.refl _ s
  exact touches_cues s _

theorem cancelCueBody_touches (p : Port) (id : Byte) (tag : BitVec 16) :
    Touches [.cues] s (cancelCueBody p id tag s).1 := by
  unfold cancelCueBody
  repeat' split
  any_goals exact Touches.refl _ s
  exact touches_cues s _

theorem readCuesBody_state (p : Port) (f : Byte) : (readCuesBody p f s).1 = s := by
  unfold readCuesBody
  split <;> rfl

theorem writeStepsBody_touches (p : Port) (row first count planes : Byte) (levels : List (BitVec 16)) :
    Touches [.patternMem] s (writeStepsBody p row first count planes levels s).1 := by
  unfold writeStepsBody
  split
  · exact touches_patternMem s _
  · exact Touches.refl _ s

theorem readStepsBody_state (row first count : Byte) : (readStepsBody row first count s).1 = s := by
  unfold readStepsBody
  split <;> rfl

theorem maskResetBody_touches (p : Port) :
    Touches [.writeSettings] s (maskResetBody p s).1 := by
  unfold maskResetBody
  split
  · exact Touches.refl _ s
  · exact touches_writeSettings s _

theorem blockFillBody_touches (p : Port) (row step pos planes : Byte) :
    Touches [.patternMem] s (blockFillBody p row step pos planes s).1 := by
  unfold blockFillBody
  split
  · exact touches_patternMem s _
  · exact Touches.refl _ s

theorem rowFillBody_touches (p : Port) (row planes : Byte) :
    Touches [.patternMem] s (rowFillBody p row planes s).1 := by
  unfold rowFillBody
  split
  · exact touches_patternMem s _
  · exact Touches.refl _ s

theorem halfLoadBody_touches (row tap : Nat) (i : Fin 4) :
    Touches [.players] s (halfLoadBody row tap i s).1 := by
  unfold halfLoadBody
  dsimp only
  split
  · split
    · exact Touches.refl _ s
    · exact touches_players s _
  · exact Touches.refl _ s

theorem readPlayerBody_state (n w : Byte) : (readPlayerBody n w s).1 = s := by
  unfold readPlayerBody
  split <;> rfl

theorem claimLanesBody_touches (p : Port) (f n : Byte) :
    Touches [.claims] s (claimLanesBody p f n s).1 := by
  unfold claimLanesBody
  split
  · split
    · exact Touches.refl _ s
    · exact touches_claims s _ s.playerClaims
  · exact Touches.refl _ s

theorem releaseLanesBody_touches (p : Port) (f n : Byte) :
    Touches [.claims] s (releaseLanesBody p f n s).1 := by
  unfold releaseLanesBody
  split
  · exact touches_claims s _ s.playerClaims
  · exact Touches.refl _ s

theorem claimPlayerBody_touches (p : Port) (f n : Byte) :
    Touches [.claims] s (claimPlayerBody p f n s).1 := by
  unfold claimPlayerBody
  split
  · split
    · exact Touches.refl _ s
    · exact touches_claims s s.laneClaims _
  · exact Touches.refl _ s

theorem releasePlayerBody_touches (p : Port) (f n : Byte) :
    Touches [.claims] s (releasePlayerBody p f n s).1 := by
  unfold releasePlayerBody
  split
  · exact touches_claims s s.laneClaims _
  · exact Touches.refl _ s

theorem setLaneBody_touches (p : Port) (n : Byte) (r : RawLaneSettings) :
    Touches [.lanes] s (setLaneBody p n r s).1 := by
  unfold setLaneBody
  repeat' split
  any_goals exact Touches.refl _ s
  exact touches_lanes s _

theorem muteBody_touches (p : Port) (l : BitVec 16) (m : Mute) :
    Touches [.lanes] s (muteBody p l m s).1 := by
  unfold muteBody
  split
  · exact Touches.refl _ s
  · split
    · exact touches_lanes s _
    · exact Touches.refl _ s

theorem readLaneBody_state (n : Byte) : (readLaneBody n s).1 = s := by
  unfold readLaneBody
  split <;> rfl

theorem setNoticesBody_touches (p : Port) (k : BitVec 16) (t : Byte) :
    Touches [.notices] s (setNoticesBody p k t s).1 := by
  unfold setNoticesBody
  split
  · exact Touches.refl _ s
  · exact touches_setNoticeQueue s p _

theorem readNoticesBody_touches (p : Port) : Touches [.notices] s (readNoticesBody p s).1 :=
  (touches_setNoticeQueue s p _).trans (refreshAttn_touches _ p)

end BodyTouches

/-- A command's body touches the blocks of its list alone. -/
theorem body_touches (i : Instr) : ForBody i fun _ _ b => ∀ s, Touches (touched i) s (b s).1 := by
  cases i with
  | openPort p => exact fun s => openBody_touches s p
  | closePort p => exact fun s => closePort_touches s p
  | setProfile p e r l a => exact fun s => setProfileBody_touches s p e r l a
  | setTempo p c g => exact fun s => asLeader_touches (touches_engine s _)
  | nudge p d => exact fun s => asLeader_touches (nudgeBody_touches s d)
  | setMeter p m => exact fun s => asLeader_touches (setMeterBody_touches s m)
  | start p l => exact fun s => asLeader_touches (startBody_touches s l)
  | stop p q => exact fun s => asLeader_touches (stopBody_touches s q)
  | locate p b x => exact fun s => asLeader_touches (locateBody_touches s b x)
  | gridReset p => exact fun s => asLeader_touches (gridResetBody_touches s)
  | setHorizon p ms => exact fun s => setHorizonBody_touches s ms
  | bid p k w c r g => exact fun s => bidBody_touches s p k w c r g
  | yieldLead p => exact fun s => asLeader_touches (yieldBody_touches s)
  | refuse p => exact fun s => asLeader_touches (refuseBody_touches s p)
  | withdraw p => exact fun s => withdrawBody_touches s p
  | release p => exact fun s => asLeader_touches (releaseBody_touches s)
  | keep p => exact fun s => asLeader_touches (Touches.refl _ s)
  | handToTap p t => exact fun s => asLeader_touches (handToTapBody_touches s t)
  | setTap p t k o => exact fun s => setTapBody_touches s t k o
  | tapClear p t => exact fun s => tapClearBody_touches s t
  | readTap p t => exact fun s => .of_eq (readTapBody_state s t)
  | setAllocation p n => exact fun s => setAllocationBody_touches s p n
  | scheduleCue p c => exact fun s => scheduleCueBody_touches s p c
  | cancelCue p id tag => exact fun s => cancelCueBody_touches s p id tag
  | readCues p f => exact fun s => .of_eq (readCuesBody_state s p f)
  | writeSteps p row first count planes levels =>
    exact fun s => afterClear_touches (writeStepsBody_touches s p row first count planes levels)
  | readSteps p row first count => exact fun s => afterClear_touches (.of_eq (readStepsBody_state s row first count))
  | loadMask p m => exact fun s => afterClear_touches (touches_writeSettings s _)
  | maskReset p => exact fun s => afterClear_touches (maskResetBody_touches s p)
  | loadFill p l => exact fun s => afterClear_touches (touches_writeSettings s _)
  | blockFill p row step pos planes =>
    exact fun s => afterClear_touches (blockFillBody_touches s p row step pos planes)
  | rowFill p row planes => exact fun s => afterClear_touches (rowFillBody_touches s p row planes)
  | loadRow p n row tap =>
    exact fun s => afterClear_touches (withPlayer_touches fun i => touches_players s _)
  | halfLoad p n row tap =>
    exact fun s => afterClear_touches (withPlayer_touches fun i => halfLoadBody_touches s _ _ i)
  | setStepLength p n l =>
    exact fun s => afterClear_touches (withPlayer_touches fun i => touches_players s _)
  | readPlayer p n w => exact fun s => afterClear_touches (.of_eq (readPlayerBody_state s n w))
  | claimLanes p f n => exact fun s => claimLanesBody_touches s p f n
  | releaseLanes p f n => exact fun s => releaseLanesBody_touches s p f n
  | claimPlayer p f n => exact fun s => claimPlayerBody_touches s p f n
  | releasePlayer p f n => exact fun s => releasePlayerBody_touches s p f n
  | setLane p n r => exact fun s => setLaneBody_touches s p n r
  | mute p l | unmute p l => exact fun s => muteBody_touches s p l _
  | readLane p n => exact fun s => .of_eq (readLaneBody_state s n)
  | setNotices p k t => exact fun s => setNoticesBody_touches s p k t
  | readNotices p => exact fun s => readNoticesBody_touches s p
  | readProfile p | readIdentity p | readPosition p | readLeadership p => exact fun s => Touches.refl _ s
  | _ => trivial

end Sys2Proof.Machine

namespace Sys2Proof.Machine

/-! ### Events -/

/-- What an event makes of the part where it comes: its condition, and the next state (log entry 22). -/
def EventDoes (s t : State) : Instr → Prop
  | .reset => t = { State.reset with
      rstLow := true, patternMem := s.patternMem, acceptedFrames := s.acceptedFrames
      choices := s.choices, pending := s.pending }
  | .resetRelease => s.rstLow = true ∧ t = { s with rstLow := false, houseTime := 0, clearing := true }
  | .patternClearEnd => s.clearDue = true ∧ t = { s with clearing := false, patternMem := [] }
  | .waitTimerExpiry => ∃ b, s.arbiter.slot = some b ∧ s.due s.arbiter.waitExpiry = true ∧ t = s.waitExpires b
  | .silenceTimerExpiry => s.due s.arbiter.silenceExpiry = true ∧ t = s.silenceExpires
  | .tapEdge k =>
    let r := (s.tap k).edge s.houseTime
    s.rstLow = false ∧
      ((r.2 = .discarded ∧ t = s.setTap k r.1) ∨ (r.2 = .restarted ∧ t = s.changeTap k r.1 .restart)
      ∨ (r.2 = .entered ∧ t = s.changeTap k r.1 .edge)
      ∨ (r.2 = .entered ∧ ((s.changeTap k r.1 .edge).tap k).follow = true
        ∧ ((s.changeTap k r.1 .edge).tap k).state = .steady
        ∧ t = (s.changeTap k r.1 .edge).lockEdge ((s.changeTap k r.1 .edge).tap k) (r.1.captured s.houseTime)))
  | .tapSilenceDeadline k =>
    s.due (s.tap k).deadline = true ∧ t = s.changeTap k (s.tap k).emptied .silence
  | .launchStep => s.launchDue = true ∧ t = s.launch
  | .generatorStep => s.generatorDue = true ∧ t = s.generate
  | .recordSounds => ∃ r, s.nextToSound = some r ∧ t = s.sound r
  | .recordRetires => s.retireDue = true ∧ t = s.retire
  | .drainingEnd => s.drainingDue = true ∧ t = s.drained
  | .laneProcessing l => ∃ r, s.laneRecord l = some r ∧ t = s.process l r
  | .pulseEnd l => s.due (s.lane l).pulseEnd = true ∧ t = s.setLane l (s.lane l).endPulse
  | .runEnd l => s.due (s.lane l).runEnd = true ∧ t = s.setLane l (s.lane l).endRun
  | _ => False

/-- An event's step when its condition is a Boolean: the next state, or nothing. -/
theorem next_ite {c : Bool} {s t u : State}
    (h : (if c then Host.Outcome.next u else .next s : Host.Outcome State Fault Refusal) = .next t) :
    t = s ∨ c = true ∧ t = u := by
  split at h <;> cases h
  · exact .inr ⟨‹_›, rfl⟩
  · exact .inl rfl

/-- An event leaves the part as it is, or does what its rule says. -/
theorem event_cases {i : Instr} {s t : State} (hi : i.port? = none) (h : exec i s = .next t) :
    t = s ∨ EventDoes s t i := by
  cases i with
  | reset => cases h; exact .inr rfl
  | resetRelease => exact next_ite h
  | patternClearEnd => exact next_ite h
  | waitTimerExpiry =>
    change execWaitTimerExpiry s = _ at h
    unfold execWaitTimerExpiry at h
    split at h
    · exact (next_ite h).imp_right fun ⟨hd, ht⟩ => ⟨_, ‹_›, hd, ht⟩
    · cases h; exact .inl rfl
  | silenceTimerExpiry => exact next_ite h
  | tapEdge k =>
    change execTapEdge k s = _ at h
    unfold execTapEdge at h
    dsimp only at h
    split at h
    · cases h; exact .inl rfl
    · next hr =>
      have hr : s.rstLow = false := by simpa using hr
      split at h
      · cases h; exact .inl rfl
      · next hk => cases h; exact .inr ⟨hr, .inl ⟨hk, rfl⟩⟩
      · next hk => cases h; exact .inr ⟨hr, .inr (.inl ⟨hk, rfl⟩)⟩
      · next hk =>
        split at h
        · next hf => cases h; exact .inr ⟨hr, .inr (.inr (.inr ⟨hk, hf.1, hf.2, rfl⟩))⟩
        · cases h; exact .inr ⟨hr, .inr (.inr (.inl ⟨hk, rfl⟩))⟩
  | tapSilenceDeadline k => exact next_ite h
  | launchStep => exact next_ite h
  | generatorStep => exact next_ite h
  | recordSounds =>
    change execRecordSounds s = _ at h
    unfold execRecordSounds at h
    split at h <;> cases h
    · exact .inr ⟨_, ‹_›, rfl⟩
    · exact .inl rfl
  | recordRetires => exact next_ite h
  | drainingEnd => exact next_ite h
  | laneProcessing l =>
    change execLaneProcessing l s = _ at h
    unfold execLaneProcessing at h
    split at h <;> cases h
    · exact .inr ⟨_, ‹_›, rfl⟩
    · exact .inl rfl
  | pulseEnd l => exact next_ite h
  | runEnd l => exact next_ite h
  | _ => simp [Instr.port?] at hi

theorem EventDoes.port?_eq_none {i : Instr} {s t : State} (h : EventDoes s t i) : i.port? = none := by
  revert h
  cases i <;> simp [EventDoes, Instr.port?]

theorem waitExpires_touches (s : State) (b : Bid) : Touches leadBlocks s (s.waitExpires b) := by
  unfold State.waitExpires
  split
  · exact grant_touches s _ _
  · exact (emptySlot_touches s).mono.trans (post_touches _ _ _).mono

theorem silenceExpires_touches (s : State) : Touches leadBlocks s s.silenceExpires := by
  unfold State.silenceExpires
  split
  · exact grant_touches s _ _
  · split
    · exact (((setLeader_touches s _).mono.trans (stopSilence_touches _).mono).trans
        (post_touches _ _ _).mono).trans (postAll_touches _ _).mono
    · exact (stopSilence_touches s).mono

theorem lockEdge_touches (s : State) (v : Tap) (e : Time) : Touches [.engine] s (s.lockEdge v e) := by
  unfold State.lockEdge
  split
  · exact touches_engine s _
  · exact Touches.refl _ s

/-- An event touches the blocks of its list alone. -/
theorem event_touches {i : Instr} {s t : State} (h : EventDoes s t i) : Touches (touched i) s t := by
  cases i with
  | reset => subst h; rintro ⟨⟩ <;> simp [Block.Same, State.reset]
  | resetRelease => obtain ⟨-, rfl⟩ := h; rintro ⟨⟩ <;> simp [Block.Same, State.port]
  | patternClearEnd => obtain ⟨-, rfl⟩ := h; rintro ⟨⟩ <;> simp [Block.Same, State.port]
  | waitTimerExpiry => obtain ⟨b, -, -, rfl⟩ := h; exact waitExpires_touches s b
  | silenceTimerExpiry => obtain ⟨-, rfl⟩ := h; exact silenceExpires_touches s
  | tapEdge k =>
    obtain ⟨-, ⟨-, rfl⟩ | ⟨-, rfl⟩ | ⟨-, rfl⟩ | ⟨-, -, -, rfl⟩⟩ := h
    · exact Touches.mono (as := [.taps]) (touches_taps s _)
    · exact changeTap_touches s _ _ _
    · exact changeTap_touches s _ _ _
    · exact (changeTap_touches s _ _ _).trans (lockEdge_touches _ _ _).mono
  | tapSilenceDeadline k => obtain ⟨-, rfl⟩ := h; exact changeTap_touches s _ _ _
  | launchStep => obtain ⟨-, rfl⟩ := h; exact launch_touches s
  | generatorStep => obtain ⟨-, rfl⟩ := h; exact generate_touches s
  | recordSounds => obtain ⟨r, -, rfl⟩ := h; exact sound_touches s r
  | recordRetires => obtain ⟨-, rfl⟩ := h; exact retire_touches s
  | drainingEnd => obtain ⟨-, rfl⟩ := h; exact drained_touches s
  | laneProcessing l => obtain ⟨r, -, rfl⟩ := h; exact touches_lanes s _
  | pulseEnd l => obtain ⟨-, rfl⟩ := h; exact touches_lanes s _
  | runEnd l => obtain ⟨-, rfl⟩ := h; exact touches_lanes s _
  | _ => exact False.elim h

/-! ### From a step to bodies and events -/

section Step

variable {P Q : State → Prop}

/-- What the rows of a port do keeps `P` to `Q` when frames, their taking and every command's body do. -/
theorem exec_keeps (hPQ : ∀ s, P s → Q s) (hframe : ∀ p out s, P s → P (s.frameEnds p out))
    (hpost : ∀ p b x s, P s → Q (s.postAt p b x)) (haccept : ∀ p code rest s, P s → Q (s.accept p code rest))
    (hanswer : ∀ p c a s, Q s → Q (s.answered p c a))
    (hbody : ∀ i, ForBody i fun p c b => ∀ s, ((s.port p).isOpen = true ∨ openExempt c = true) →
      s.rstLow = false → P s → Q (b s).1)
    (hevent : ∀ i s t, EventDoes s t i → P s → Q t) (i : Instr) (s t : State) (hs : P s)
    (h : exec i s = .next t) : Q t := by
  have hheard : ∀ p j, P (s.heard p j) := fun p j => by
    unfold State.heard
    split
    · exact hframe _ _ _ hs
    · exact hs
  have harrive : ∀ p code j finish, arrive p code j finish s = .next t →
      (s.rstLow = false → ∀ u, P u → u.rstLow = false → Q (finish u)) → Q t := by
    intro p code j finish ha hf
    unfold arrive at ha
    split at ha
    · cases ha; exact hPQ _ hs
    · next hr =>
      have hr : s.rstLow = false := by simpa using hr
      split at ha
      · cases ha; exact hf hr _ (hframe _ _ _ hs) (by simpa using hr)
      · split at ha
        · cases ha; exact hf hr _ hs hr
        · cases ha; exact hpost _ _ _ _ (hframe _ _ _ hs)
  cases hc : commandBody i with
  | some d =>
    obtain ⟨p, c, b⟩ := d
    rw [exec_of_commandBody hc] at h
    refine harrive p c i _ h fun _ u hu hur => ?_
    unfold runCommand
    split
    · next ho => exact hanswer _ _ _ _ ((hbody i).elim hc u (by simpa using ho) hur hu)
    · exact hanswer _ _ _ _ (hPQ _ hu)
  | none =>
    cases hp : i.port? with
    | none =>
      obtain rfl | he := event_cases hp h
      · exact hPQ _ hs
      · exact hevent _ _ _ he hs
    | some p =>
      obtain ⟨code, rest, rfl⟩ | ⟨f, rfl⟩ | rfl | ⟨code, rest, rfl⟩ := commandBody_eq_none hc hp
      · change execCommandFrame p code rest s = _ at h
        unfold execCommandFrame at h
        (repeat' split at h) <;> cases h
        · exact hPQ _ hs
        · exact hPQ _ (hframe _ _ _ hs)
        · exact haccept _ _ _ _ hs
        · exact hpost _ _ _ _ (hframe _ _ _ hs)
      · change execFetchFrame p f s = _ at h
        unfold execFetchFrame at h
        split at h <;> cases h
        · exact hPQ _ hs
        · exact hPQ _ (hframe _ _ _ hs)
      · change execEmptyFrame p s = _ at h
        unfold execEmptyFrame at h
        split at h <;> cases h
        · exact hPQ _ hs
        · exact hPQ _ (hframe _ _ _ hs)
      · change execUnknownCommand p code rest s = _ at h
        unfold execUnknownCommand at h
        split at h
        · cases h; exact hPQ _ hs
        · exact harrive _ _ _ _ h fun _ u hu _ => hanswer _ _ _ _ (hPQ _ hu)

/-- No event is due while house time goes on (log entry 9). -/
theorem dueEvents_of_chosen_none {s : State} (h : s.chosenEvent = none) : s.dueEvents = [] := by
  unfold State.chosenEvent at h
  rw [List.getElem?_eq_none_iff] at h
  by_contra hne
  have := Nat.mod_lt (Config.eventChoice s.choices) (List.length_pos_iff.2 hne)
  omega

/-- A step keeps `P` to `Q` when every command and event and the passing of a microsecond do. -/
theorem step_keeps (hP : ∀ s t, Touches [] s t → P s → P t) (hPQ : ∀ s, P s → Q s)
    (htick : ∀ s, P s → s.rstLow = false → s.dueEvents = [] → Q { s with houseTime := s.houseTime + 1 })
    (hexec : ∀ i s t, P s → exec i s = .next t → Q t) (s t : State) (hs : P s) (h : step s = .next t) : Q t := by
  unfold step at h
  split at h
  · exact hexec _ _ _ (hP _ _ (touches_pending s _) hs) h
  · unfold State.idle at h
    split at h
    · refine hexec _ _ _ (hP s _ ?_ hs) h
      rintro ⟨⟩ <;> simp [Block.Same, State.countChoice, State.port]
    · next hn =>
      cases h
      unfold State.tick
      split
      · exact hPQ _ hs
      · next hr => exact htick s hs (by simpa using hr) (dueEvents_of_chosen_none hn)

/-- A step keeps `P` to `Q`, which depend on blocks that frames and answers leave alone, when every command's
body, every event and the passing of a microsecond do. -/
theorem step_keeps_of_dependsOn {D : List Block} (hP : DependsOn D P) (hQ : DependsOn D Q)
    (hPQ : ∀ s, P s → Q s)
    (htick : ∀ s, P s → s.rstLow = false → s.dueEvents = [] → Q { s with houseTime := s.houseTime + 1 })
    (hbody : ∀ i, ForBody i fun p c b => ∀ s, ((s.port p).isOpen = true ∨ openExempt c = true) →
      s.rstLow = false → P s → Q (b s).1)
    (hevent : ∀ i s t, EventDoes s t i → P s → Q t)
    (hD : ∀ b ∈ D, b ∉ [Block.silence, .links, .notices] := by simp) :
    ∀ s t, P s → step s = .next t → Q t := by
  refine step_keeps (fun s t h hs => hP.keep h hs (by simp)) hPQ htick (exec_keeps hPQ ?_ ?_ ?_ ?_ hbody hevent)
  · exact fun p out s hs => hP.keep ((frameEnds_touches s p out).mono (bs := [.silence, .links, .notices])) hs hD
  · exact fun p b x s hs => hQ.keep ((postAt_touches s p b x).mono (bs := [.silence, .links, .notices])) (hPQ _ hs) hD
  · exact fun p code rest s hs =>
      hQ.keep ((accept_touches s p code rest).mono (bs := [.silence, .links, .notices])) (hPQ _ hs) hD
  · exact fun p c a s hs => hQ.keep ((answered_touches s p c a).mono (bs := [.silence, .links, .notices])) hs hD

/-- A command whose body leaves alone what `Q` depends on keeps it. -/
theorem ForBody.of_dependsOn {D : List Block} (hQ : DependsOn D Q) (hPQ : ∀ s, P s → Q s) {i : Instr}
    (hD : (∀ b ∈ D, b ∉ touched i) ∨ commandBody i = none := by simp [commandBody]) :
    ForBody i fun p c b => ∀ s, ((s.port p).isOpen = true ∨ openExempt c = true) →
      s.rstLow = false → P s → Q (b s).1 :=
  ForBody.intro fun p c b hb s _ _ hs => hQ.keep ((body_touches i).elim hb s) (hPQ _ hs)
    (hD.resolve_right fun hn => by simp [hn] at hb)

/-- An event that leaves alone what `P` depends on keeps it. -/
theorem DependsOn.event {D : List Block} (hP : DependsOn D P) {i : Instr} {s t : State} (h : EventDoes s t i)
    (hs : P s) (hD : (∀ b ∈ D, b ∉ touched i) ∨ i.port? ≠ none := by simp [Instr.port?]) : P t := by
  exact hP.keep (event_touches h) hs (hD.resolve_right fun hp => hp h.port?_eq_none)

end Step

end Sys2Proof.Machine

/-! PROOF. The lanes' invariant (chapter 8): what a lane meets, emits and is set to keeps its cursor, its output and
its run as sections 8.2 to 8.5 give them. -/

namespace Sys2Proof.Machine

/-! ### What the making of a record and a stop point leave of the parts -/

/-- The lanes after the making of a record: each takes the record (R52, R146). -/
theorem makeRecord_lane (launch : Bool) (f : Firing) (l : Fin 16) :
    (makeRecord launch f).lane l = (f.state.lane l).onAppend launch f.state.gen.pulse := by
  let s := f.state.applyMeter
  let u : State := { s.postGiven true s.gen.position (s.givenAt f.given (s.playersAt launch)) with
    players := Vector.ofFn fun i => ((s.playersAt launch)[i]).1 }
  let r := s.newRecord launch f.changes f.given
  have hm : Touches [.engine] f.state s := applyMeter_touches f.state
  have hp := postGiven_touches s true s.gen.position (s.givenAt f.given (s.playersAt launch))
  have hu : u.lanes = f.state.lanes := Eq.trans (hp .lanes (by simp) : _ = _) (hm .lanes (by simp) : _ = _)
  have ht : (makeRecord launch f).lanes = (u.append r).lanes :=
    ((stepOn_touches (u.append r)).mono.trans (wrapDrop_touches _ _ _).mono :
      Touches [.engine, .gen, .cues, .notices] _ _) .lanes (by simp)
  have hg : s.gen = f.state.gen := hm .gen (by simp)
  have hpulse : r.pulse = f.state.gen.pulse := congrArg Generator.pulse hg
  have hlaunch : r.markers.launch = launch := rfl
  simp [State.lane, ht, State.append, hu, hpulse, hlaunch]

theorem Touches.lane {bs : List Block} {s t : State} (h : Touches bs s t) (l : Fin 16)
    (hb : Block.lanes ∉ bs := by simp) : t.lane l = s.lane l :=
  congrArg (·[l]) (h .lanes hb)

theorem State.tellLast_lane (s : State) (r : PulseRecord) (l : Fin 16) :
    (s.tellLast r).lane l
      = if (s.lane l).cursor = some .next then (s.lane l).noteLast s.houseTime r else s.lane l := by
  simp [State.tellLast, State.lane]

/-- The lanes after a stop point is reached: each stands or takes note of a last marker (R47, R160). -/
theorem reachStop_lane (s : State) (l : Fin 16) :
    s.reachStop.lane l = s.lane l ∨ ∃ r, s.reachStop.lane l = (s.lane l).noteLast s.houseTime r := by
  unfold State.reachStop
  dsimp only
  split
  · rw [(enter_touches _ .draining).lane l, State.tellLast_lane]
    split
    · exact .inr ⟨_, rfl⟩
    · exact .inl rfl
  · exact .inl ((toStopped_touches s.playersStop).lane l)

/-! ### A lane without its cursor -/

/-- What a lane's invariant says but for the cursor. -/
structure Lane.Sound (l : Lane) (h : Nat) : Prop where
  settings : l.settings.Legal h
  pulse : l.settings.mode = .off → l.pulseEnd = none
  active : l.output = .active → l.pulseEnd.isSome = true ∨ l.runFlag = true
  run : l.runFlag = true → l.settings.mode = .run
  runEnd : l.runEnd.isSome = true → l.runFlag = true

theorem Lane.legal_iff {l : Lane} {h : Nat} :
    l.Legal h ↔ l.Sound h ∧ (l.cursor = none ↔ l.settings.mode = .off) :=
  ⟨fun ⟨hg, hc, hp, ho, hr, he⟩ => ⟨⟨hg, hp, ho, hr, he⟩, hc⟩,
    fun ⟨⟨hg, hp, ho, hr, he⟩, hc⟩ => ⟨hg, hc, hp, ho, hr, he⟩⟩

section Lane

variable {l : Lane} {h : Nat} {i : Fin 16} {now : Time} {r : PulseRecord}

/-- The mute state and the cursor are not among what a sound lane is. -/
theorem Lane.Sound.withMuteCursor (hl : l.Sound h) (m : Mute) (c : Option Cursor) :
    Lane.Sound { l with mute := m, cursor := c } h :=
  ⟨hl.settings, hl.pulse, hl.active, hl.run, hl.runEnd⟩

/-- Passing over a record changes neither the settings nor the cursor. -/
theorem Lane.meet_cursor_settings (i : Fin 16) (now : Time) (r : PulseRecord) (l : Lane) :
    (l.meet i now r).cursor = l.cursor ∧ (l.meet i now r).settings = l.settings := by
  rw [Lane.meet_eq_passedOver]
  unfold Lane.passedOver
  dsimp only
  split
  · split <;> exact ⟨rfl, rfl⟩
  · exact ⟨rfl, rfl⟩

theorem Lane.noteLast_cursor_settings (now : Time) (r : PulseRecord) (l : Lane) :
    (l.noteLast now r).cursor = l.cursor ∧ (l.noteLast now r).settings = l.settings := by
  unfold Lane.noteLast
  dsimp only
  split
  · split <;> exact ⟨rfl, rfl⟩
  · exact ⟨rfl, rfl⟩

theorem Lane.Sound.noteLast (hl : l.Sound h) (now : Time) (r : PulseRecord) : (l.noteLast now r).Sound h := by
  obtain ⟨hg, hp, ho, hr, he⟩ := hl
  unfold Lane.noteLast
  dsimp only
  split
  · next hrun =>
    split
    · exact ⟨hg, hp, by simp, by simp, by simp⟩
    · exact ⟨hg, hp, ho, hr, fun _ => hrun.2⟩
  · exact ⟨hg, hp, ho, hr, he⟩

theorem Lane.Sound.meet (hl : l.Sound h) (i : Fin 16) (now : Time) (r : PulseRecord) :
    (l.meet i now r).Sound h := by
  have hflag : ((l.applyEntry i r).launchFlag r).Sound h := by
    have hentry : (l.applyEntry i r).Sound h := by
      unfold Lane.applyEntry
      split
      · exact hl.withMuteCursor _ _
      · exact hl
    obtain ⟨hg, hp, ho, hr, he⟩ := hentry
    unfold Lane.launchFlag
    split
    · next hrun => exact ⟨hg, hp, fun _ => .inr rfl, fun _ => hrun.1, fun _ => rfl⟩
    · exact ⟨hg, hp, ho, hr, he⟩
  unfold Lane.meet
  dsimp only
  split
  · exact hflag.noteLast now r
  · exact hflag

theorem Lane.Legal.noteLast (hl : l.Legal h) (now : Time) (r : PulseRecord) : (l.noteLast now r).Legal h := by
  obtain ⟨hs, hc⟩ := Lane.legal_iff.1 hl
  obtain ⟨hcur, hset⟩ := Lane.noteLast_cursor_settings now r l
  exact Lane.legal_iff.2 ⟨hs.noteLast now r, by rw [hcur, hset]; exact hc⟩

/-- A lane that is not OFF and whose cursor is set is legal when the rest of it is. -/
theorem Lane.Sound.withCursor (hl : l.Sound h) (hm : l.settings.mode ≠ .off) (c : Cursor) :
    Lane.Legal { l with cursor := some c } h :=
  Lane.legal_iff.2 ⟨hl.withMuteCursor _ _, by simp [hm]⟩

/-- A lane that is not OFF is legal once it has seated its cursor (R152, R154). -/
theorem Lane.Sound.seat (hl : l.Sound h) (hm : l.settings.mode ≠ .off) (i : Fin 16) (now : Time)
    (q : List PulseRecord) : (l.seat i now q).Legal h := by
  have hfold : ∀ (rs : List PulseRecord) (d : Lane), d.Sound h → d.settings.mode ≠ .off →
      (rs.foldl (fun l r => l.meet i now r) d).Sound h
        ∧ (rs.foldl (fun l r => l.meet i now r) d).settings.mode ≠ .off := by
    intro rs
    induction rs with
    | nil => exact fun d hd hm => ⟨hd, hm⟩
    | cons r rs ih =>
      exact fun d hd hm => ih _ (hd.meet i now r) (by rw [(d.meet_cursor_settings i now r).2]; exact hm)
  have hself : ∀ c, l.cursor = some c → l.Legal h := fun c hc => Lane.legal_iff.2 ⟨hl, by simp [hc, hm]⟩
  unfold Lane.seat
  dsimp only
  split
  · exact hl.withCursor hm _
  · next hc => exact hself _ hc
  · next hc =>
    split
    · exact hself _ hc
    · obtain ⟨hs, hmode⟩ := hfold _ l hl hm
      exact hs.withCursor hmode _

/-- A new settings record in its ranges leaves a legal lane (R147, R152, R155). -/
theorem Lane.Legal.configure (hl : l.Legal h) {g : LaneSettings} (hg : g.Legal h) (i : Fin 16) (now : Time)
    (q : List PulseRecord) : (l.configure i now q g).Legal h := by
  obtain ⟨⟨hset, hp, ho, hr, he⟩, hc⟩ := Lane.legal_iff.1 hl
  unfold Lane.configure
  dsimp only
  split
  · next hoff =>
    split
    · next hold =>
      have hflag : l.runFlag = false := by
        cases hf : l.runFlag with
        | false => rfl
        | true => exact absurd (hr hf) (by simp [hold])
      exact Lane.legal_iff.2 ⟨⟨hg, fun _ => hp hold, ho, fun hf => by simp [hflag] at hf, he⟩, by simp [hc, hold, hoff]⟩
    · exact Lane.legal_iff.2 ⟨⟨hg, by simp [Lane.goOff], by simp [Lane.goOff], by simp [Lane.goOff],
        by simp [Lane.goOff]⟩, by simp [Lane.goOff, hoff]⟩
  · next hon =>
    have hmode : ∀ d : Lane, d.settings = g ∧ d.Sound h ∧ d.cursor = l.cursor →
        (if l.settings.mode = .off ∨ l.settings.offset ≠ g.offset then d.seat i now q else d).Legal h := by
      rintro d ⟨hd, hsound, hcur⟩
      split
      · exact hsound.seat (by rw [hd]; exact hon) i now q
      · next hkeep => exact Lane.legal_iff.2 ⟨hsound, by rw [hcur, hc, hd]; tauto⟩
    refine hmode _ ?_
    split
    · refine ⟨rfl, ⟨hg, fun hoff => absurd hoff hon, ?_, by simp [Lane.leaveRun], by simp [Lane.leaveRun]⟩, rfl⟩
      simp only [Lane.leaveRun]
      split
      · next hsome => exact fun _ => .inl hsome
      · simp
    · next hrun =>
      split
      · next hnr =>
        refine ⟨rfl, ⟨hg, fun hoff => absurd hoff hon, fun hact => .inl ?_, by simp, by simp⟩, rfl⟩
        exact (ho hact).resolve_right fun hf => hnr.1 (hr hf)
      · refine ⟨rfl, ⟨hg, fun hoff => absurd hoff hon, ho, fun hf => ?_, he⟩, rfl⟩
        exact not_not.1 fun hne => hrun ⟨hr hf, hne⟩

/-- A settings record brought into range is legal, its identifiers having been read (R147, R149). -/
theorem LaneSettings.clamped_legal {r : RawLaneSettings} {g : LaneSettings} (hg : readLaneSettings r = some g)
    (h : Nat) : ((g.clamped h).1).Legal h := by
  have hread : 1 ≤ g.divisor ∧ g.divisor ≤ 384 ∧ g.phase < g.divisor := by
    simp only [readLaneSettings, Option.bind_eq_bind, Option.bind_eq_some_iff] at hg
    obtain ⟨_, -, _, -, _, -, _, -, _, -, hg⟩ := hg
    split at hg
    · next hd => cases hg; exact hd
    · cases hg
  have hw := fun w => clampNat_spec (lo := 1) (hi := Config.widthMax) (v := w) (by decide)
  have ho := clampInt_spec (lo := -(h : Int)) (hi := (Config.offsetMax : Int)) (v := g.offset)
    (by simp only [Config.offsetMax]; omega)
  exact ⟨hread.1, hread.2.1, hread.2.2, ⟨(hw _).1, (hw _).2.1⟩, ⟨(hw _).1, (hw _).2.1⟩, ⟨(hw _).1, (hw _).2.1⟩,
    ⟨(hw _).1, (hw _).2.1⟩, ho.1, ho.2.1⟩

/-- The emission at a record keeps what is not the cursor (section 8.5). -/
theorem Lane.Sound.emit (hl : l.Sound h) (now : Time) (n : Nat) (r : PulseRecord) : (l.emit now n r).Sound h := by
  have hbegin : ∀ w, l.settings.mode ≠ .off → (l.beginPulse now w).Sound h := fun w hm => by
    obtain ⟨hg, hp, ho, hr, he⟩ := hl
    exact ⟨hg, fun hoff => absurd hoff hm, fun _ => .inl rfl, hr, he⟩
  unfold Lane.emit
  split
  · exact hl
  · next hm =>
    split
    · exact hbegin _ (by simp [hm])
    · exact hl
  · next hm =>
    split
    · exact hbegin _ (by simp [hm])
    · exact hl
  · split
    · next hf =>
      obtain ⟨hg, hp, ho, hr, he⟩ := hl
      exact ⟨hg, hp, fun _ => .inr hf, hr, he⟩
    · exact hl

theorem Lane.emit_settings (now : Time) (n : Nat) (r : PulseRecord) (l : Lane) :
    (l.emit now n r).settings = l.settings := by
  unfold Lane.emit
  (repeat' split) <;> rfl

theorem Lane.Legal.endPulse (hl : l.Legal h) : l.endPulse.Legal h := by
  obtain ⟨⟨hg, hp, ho, hr, he⟩, hc⟩ := Lane.legal_iff.1 hl
  refine Lane.legal_iff.2 ⟨⟨hg, fun _ => rfl, ?_, hr, he⟩, hc⟩
  unfold Lane.endPulse
  dsimp only
  split
  · next hrun => exact fun _ => .inr hrun.2.1
  · simp

theorem Lane.Legal.endRun (hl : l.Legal h) : l.endRun.Legal h := by
  obtain ⟨⟨hg, hp, -, -, -⟩, hc⟩ := Lane.legal_iff.1 hl
  exact Lane.legal_iff.2 ⟨⟨hg, hp, by simp [Lane.endRun], by simp [Lane.endRun], by simp [Lane.endRun]⟩, hc⟩

theorem Lane.Legal.onAppend (hl : l.Legal h) (launch : Bool) (n : PulseNumber) : (l.onAppend launch n).Legal h := by
  obtain ⟨hs, hc⟩ := Lane.legal_iff.1 hl
  have hsame : (l.onAppend launch n).settings = l.settings ∧ (l.onAppend launch n).output = l.output
      ∧ (l.onAppend launch n).pulseEnd = l.pulseEnd ∧ (l.onAppend launch n).runFlag = l.runFlag
      ∧ (l.onAppend launch n).runEnd = l.runEnd := by
    unfold Lane.onAppend
    dsimp only
    (repeat' split) <;> exact ⟨rfl, rfl, rfl, rfl, rfl⟩
  have hcur : (l.onAppend launch n).cursor = none ↔ l.cursor = none := by
    unfold Lane.onAppend
    by_cases hn : l.cursor = some .next <;> by_cases hm : l.settings.mode = .off <;> cases launch <;> simp_all
  obtain ⟨hset, hout, hpe, hrf, hre⟩ := hsame
  refine Lane.legal_iff.2 ⟨?_, by rw [hcur, hset]; exact hc⟩
  obtain ⟨hg, hp, ho, hr, he⟩ := hs
  exact ⟨hset ▸ hg, by rwa [hset, hpe], by rwa [hout, hpe, hrf], by rwa [hrf, hset], by rwa [hre, hrf]⟩

end Lane

/-! ### The sixteen lanes -/

theorem laneInv_dependsOn : DependsOn [.lanes, .horizon] State.LaneInv := by
  refine ⟨fun s t h hs i => ?_⟩
  have hl : t.lanes = s.lanes := h .lanes (by simp)
  have hh : t.transport.horizonMs = s.transport.horizonMs := h .horizon (by simp)
  simpa [State.lane, State.horizonUs, hl, hh] using hs i

theorem State.LaneInv.setLane {s : State} (hs : s.LaneInv) {l : Fin 16} {d : Lane} (hd : d.Legal s.horizonUs) :
    (s.setLane l d).LaneInv := by
  intro i
  rw [State.setLane_lane]
  split
  · exact hd
  · exact hs i

theorem State.LaneInv.of_lane {s t : State} {bs : List Block} (ht : Touches bs s t)
    (h : ∀ i, (t.lane i).Legal s.horizonUs) (hb : Block.horizon ∉ bs := by simp) : t.LaneInv := by
  have hh : t.transport.horizonMs = s.transport.horizonMs := ht .horizon hb
  intro i
  simpa [State.horizonUs, hh] using h i

theorem State.LaneInv.reachStop {s : State} (hs : s.LaneInv) : s.reachStop.LaneInv := by
  refine State.LaneInv.of_lane (reachStop_touches s) fun i => ?_
  obtain h | ⟨r, h⟩ := reachStop_lane s i <;> rw [h]
  · exact hs i
  · exact (hs i).noteLast _ r

/-- A new horizon raises the offsets that lie below it, and leaves legal lanes (R149). -/
theorem State.LaneInv.raiseOffsets {s : State} (hs : s.LaneInv) (ms : Nat) :
    (State.raiseOffsets { s with transport := { s.transport with horizonMs := ms } }).LaneInv := by
  intro i
  obtain ⟨⟨hg, hp, ho, hr, he⟩, hc⟩ := Lane.legal_iff.1 (hs i)
  obtain ⟨h1, h2, h3, h4, h5, h6, h7, h8, h9⟩ := hg
  have hsound : ∀ o : Int, -((ms * 1000 : Nat) : Int) ≤ o → o ≤ 250000 →
      Lane.Sound { s.lane i with settings := { (s.lane i).settings with offset := o } } (ms * 1000) :=
    fun o hlo hhi => ⟨⟨h1, h2, h3, h4, h5, h6, h7, hlo, hhi⟩, hp, ho, hr, he⟩
  have hraised : (State.raiseOffsets { s with transport := { s.transport with horizonMs := ms } }).lane i
      = if (s.lane i).settings.offset < -((ms * 1000 : Nat) : Int) then
          if (s.lane i).settings.mode = .off then
            { s.lane i with settings := { (s.lane i).settings with offset := -((ms * 1000 : Nat) : Int) } }
          else Lane.seat i s.houseTime s.queue
            { s.lane i with settings := { (s.lane i).settings with offset := -((ms * 1000 : Nat) : Int) } }
        else s.lane i := by
    simp [State.raiseOffsets, State.lane, State.horizonUs]
  rw [hraised]
  change Lane.Legal _ (ms * 1000)
  split
  · split
    · exact Lane.legal_iff.2 ⟨hsound _ (le_refl _) (by omega), hc⟩
    · next hm => exact (hsound _ (le_refl _) (by omega)).seat hm _ _ _
  · next hlow => exact Lane.legal_iff.2 ⟨hsound (s.lane i).settings.offset (by omega) h9, hc⟩

/-- A step that makes a record, or ends at a STOP cue, keeps the lanes. -/
theorem State.LaneInv.makeRecord {f : Firing} (hs : f.state.LaneInv) (launch : Bool) :
    (makeRecord launch f).LaneInv :=
  State.LaneInv.of_lane (makeRecord_touches launch f) fun i => by
    rw [makeRecord_lane]
    exact (hs i).onAppend _ _

theorem State.LaneInv.stopStep {f : Firing} (hs : f.state.LaneInv) : (stopStep f).LaneInv := by
  refine State.LaneInv.reachStop (laneInv_dependsOn.keep (postGiven_touches _ _ _ _) fun i => ?_)
  simp only [State.handChanges, State.lane, Fin.getElem_fin, Vector.getElem_ofFn, State.horizonUs]
  split
  · obtain ⟨hd, hc⟩ := Lane.legal_iff.1 (hs i)
    exact Lane.legal_iff.2 ⟨hd.withMuteCursor _ _, hc⟩
  · exact hs i

theorem State.LaneInv.generate {s : State} (hs : s.LaneInv) : s.generate.LaneInv := by
  have hf := laneInv_dependsOn.keep (fireCues_touches s) hs
  unfold State.generate
  dsimp only
  split
  · exact hs.reachStop
  · split
    · exact State.LaneInv.stopStep hf
    · exact State.LaneInv.makeRecord hf _

theorem State.LaneInv.launch {s : State} (hs : s.LaneInv) : s.launch.LaneInv := by
  have hf := laneInv_dependsOn.keep (fireCues_touches s) hs
  unfold State.launch
  dsimp only
  split
  · exact hs.reachStop
  · split
    · exact State.LaneInv.stopStep hf
    · refine laneInv_dependsOn.keep (enter_touches _ _) (State.LaneInv.makeRecord ?_ _)
      exact laneInv_dependsOn.keep (setLaunchN_touches _) hf

/-- Processing a record keeps a lane (R153). -/
theorem State.LaneInv.process {s : State} (hs : s.LaneInv) {l : Fin 16} {r : PulseRecord}
    (hr : s.laneRecord l = some r) : (s.process l r).LaneInv := by
  obtain ⟨hd, hc⟩ := Lane.legal_iff.1 (hs l)
  have hmode : (s.lane l).settings.mode ≠ .off := by
    intro hoff
    rw [State.laneRecord, hc.2 hoff] at hr
    cases hr
  refine hs.setLane (Lane.Sound.withCursor ((hd.meet l s.houseTime r).emit _ _ _) ?_ _)
  rw [Lane.emit_settings, (Lane.meet_cursor_settings _ _ _ _).2]
  exact hmode

theorem State.LaneInv.setStop {s : State} (hs : s.LaneInv) (x : Position) : (s.setStop x).LaneInv := by
  have hset := laneInv_dependsOn.keep (touches_stopPoint s (some x)) hs
  unfold State.setStop
  split
  · exact hs.reachStop
  · dsimp only
    split
    · exact laneInv_dependsOn.keep (enter_touches _ _) hset
    · exact hset

theorem State.LaneInv.setMutes {s : State} (hs : s.LaneInv) (lanes : BitVec 16) (m : Mute) :
    (s.setMutes lanes m).LaneInv := by
  intro i
  simp only [State.setMutes, State.lane, Fin.getElem_fin, Vector.getElem_ofFn, State.horizonUs]
  split
  · obtain ⟨hd, hc⟩ := Lane.legal_iff.1 (hs i)
    exact Lane.legal_iff.2 ⟨hd.withMuteCursor _ _, hc⟩
  · exact hs i

theorem laneInv_reset : State.reset.LaneInv := by
  intro i
  simp [State.lane, State.reset, Lane.Legal, Lane.reset, LaneSettings.reset, LaneSettings.Legal, State.horizonUs,
    Transport.reset]

/-- Settles O57: the operations on a lane keep it, and every other command and event leaves the lanes and the
horizon alone. -/
theorem stepsKeepTheLanesLegal : Obligations.StepsKeepTheLanesLegal := by
  refine step_keeps_of_dependsOn laneInv_dependsOn laneInv_dependsOn (fun _ hs => hs) (fun s hs _ _ => hs) ?_ ?_
  · intro i
    cases i with
    | stop p q =>
      intro s _ _ hs
      obtain e | ⟨-, e⟩ := asLeader_cases p (stopBody q) s <;> rw [e]
      · exact hs
      · unfold stopBody
        split
        · exact hs
        · split
          · exact hs
          · exact laneInv_dependsOn.keep (toStopped_touches s) hs
          · exact hs.setStop _
          · exact hs.setStop _
          · exact hs
    | setHorizon p ms =>
      intro s _ _ hs
      unfold setHorizonBody
      split
      · exact hs.raiseOffsets _
      · exact hs
    | setLane p n r =>
      intro s _ _ hs
      unfold setLaneBody
      dsimp only
      split
      · exact hs
      · split
        · split
          · exact hs
          · next hg =>
            split
            · exact hs
            · exact hs.setLane ((hs _).configure (LaneSettings.clamped_legal hg _) _ _ _)
        · exact hs
    | mute p l | unmute p l =>
      intro s _ _ hs
      unfold muteBody
      split
      · exact hs
      · split
        · exact hs.setMutes _ _
        · exact hs
    | _ => exact ForBody.of_dependsOn laneInv_dependsOn fun _ hs => hs
  · intro i s t h hs
    cases i with
    | reset => subst h; exact laneInv_reset
    | launchStep => obtain ⟨-, rfl⟩ := h; exact hs.launch
    | generatorStep => obtain ⟨-, rfl⟩ := h; exact hs.generate
    | laneProcessing l => obtain ⟨r, hr, rfl⟩ := h; exact hs.process hr
    | pulseEnd l => obtain ⟨-, rfl⟩ := h; exact hs.setLane (hs l).endPulse
    | runEnd l => obtain ⟨-, rfl⟩ := h; exact hs.setLane (hs l).endRun
    | _ => exact laneInv_dependsOn.event h hs

end Sys2Proof.Machine

/-! PROOF. What the reaching of a stop point, the firing of the due cues and the steps of the generator come to,
one lemma each, for the invariants that depend on them. -/

namespace Sys2Proof.Machine

/-! ### Stop points -/

theorem State.reachStop_players (s : State) : s.reachStop.players = s.playersStop.players := by
  unfold State.reachStop
  dsimp only
  split
  · exact enter_touches _ .draining .players (by simp)
  · exact toStopped_touches _ .players (by simp)

theorem State.reachStop_player (s : State) (i : Fin 4) : s.reachStop.player i = (s.player i).stopPlace := by
  simp [State.player, State.reachStop_players, State.playersStop]

/-- A stop point that is set is reached at once, or stands as the transport's (R31). -/
theorem State.setStop_cases (s : State) (x : Position) :
    (x = s.gen.position ∧ s.setStop x = s.reachStop)
      ∨ (x ≠ s.gen.position ∧ Touches [.run, .notices] s (s.setStop x)) := by
  unfold State.setStop
  split
  · exact .inl ⟨‹_›, rfl⟩
  · refine .inr ⟨‹_›, ?_⟩
    dsimp only
    split
    · exact (touches_stopPoint s (some x)).mono.trans (enter_touches _ _)
    · exact (touches_stopPoint s (some x)).mono

/-- STOP leaves the part, stops it from ARMED, or sets a stop point in RUNNING or STOP_PENDING (R30). -/
theorem stopBody_cases (q : Byte) (s : State) :
    (stopBody q s).1 = s ∨ (s.transport.state = .armed ∧ (stopBody q s).1 = s.toStopped)
      ∨ ∃ x, (s.transport.state = .running ∨ s.transport.state = .stopPending) ∧ (stopBody q s).1 = s.setStop x := by
  unfold stopBody
  split
  · exact .inl rfl
  · split
    · exact .inl rfl
    · exact .inr (.inl ⟨‹_›, rfl⟩)
    · exact .inr (.inr ⟨_, .inl ‹_›, rfl⟩)
    · exact .inr (.inr ⟨_, .inr ‹_›, rfl⟩)
    · exact .inl rfl

/-! ### The firing of cues -/

/-- What a firing cue can do to the part (R109, R110). -/
theorem Firing.act_cases (f : Firing) (c : Cue) :
    (f.act c).state = f.state
      ∨ (∃ i row tap, c.action = .loadRow i row tap ∧ (f.act c).state = f.state.setPlayer i
          ((f.state.player i).loadRow f.state.patternMem row tap true))
      ∨ (∃ i row tap, c.action = .halfLoad i row tap ∧ (f.state.player i).primed = true
          ∧ (f.state.player i).rowJump = none ∧ (f.act c).state = f.state.setPlayer i
          ((f.state.player i).loadHalf f.state.patternMem row tap))
      ∨ (∃ v glide, c.action = .tempo v glide
          ∧ (f.act c).state = { f.state with engine := f.state.engine.startTempo v glide })
      ∨ (∃ m, c.action = .meter m
          ∧ (f.act c).state = { f.state with engine := { f.state.engine with pendingMeter := some m } }) := by
  unfold Firing.act
  split
  · next lanes _ => exact .inl (by unfold Firing.muteLanes; dsimp only; split <;> rfl)
  · next lanes _ => exact .inl (by unfold Firing.muteLanes; dsimp only; split <;> rfl)
  · split
    · exact .inr (.inl ⟨_, _, _, ‹_›, rfl⟩)
    · exact .inl rfl
  · split
    · split
      · split
        · exact .inl rfl
        · next hj => exact .inr (.inr (.inl ⟨_, _, _, ‹_›, ‹_›, by simpa using hj, rfl⟩))
      · exact .inl rfl
    · exact .inl rfl
  · split
    · exact .inr (.inr (.inr (.inl ⟨_, _, ‹_›, rfl⟩)))
    · exact .inl rfl
  · split
    · exact .inr (.inr (.inr (.inr ⟨_, ‹_›, rfl⟩)))
    · exact .inl rfl
  · split
    · exact .inl rfl
    · exact .inl rfl
  · exact .inl rfl

/-- What every cue of the pool keeps when it leaves the pool and acts, the firing of the due cues keeps. -/
theorem State.fireCues_keeps {P : State → Prop} {s : State} (hs : P s)
    (h : ∀ (f : Firing) (c : Cue), c ∈ s.cues → P f.state → P ((f.remove c).act c).state) : P s.fireCues.state := by
  have hfold : ∀ (cs : List Cue), (∀ c ∈ cs, c ∈ s.cues) → ∀ f : Firing, P f.state →
      P (cs.foldl (fun f c => (f.remove c).act c) f).state := by
    intro cs
    induction cs with
    | nil => exact fun _ f hf => hf
    | cons c cs ih =>
      exact fun hc f hf => ih (fun d hd => hc d (by simp [hd])) _ (h f c (hc c (by simp)) hf)
  exact hfold s.dueCues (fun c hc => (List.mem_filter.1 hc).1) _ hs

/-- The pool that the firing of some cues leaves: the cues of other ids. -/
theorem foldl_act_cues (cs : List Cue) (f : Firing) :
    (cs.foldl (fun f c => (f.remove c).act c) f).state.cues
      = f.state.cues.filter fun d => cs.all fun c => decide (d.id ≠ c.id) := by
  induction cs generalizing f with
  | nil => simp
  | cons c cs ih =>
    have hact : ((f.remove c).act c).state.cues = f.state.cues.filter fun d => decide (d.id ≠ c.id) := by
      rw [Firing.act_frame]
      rfl
    rw [List.foldl_cons, ih, hact, List.filter_filter]
    simp only [List.all_cons]
    congr 1
    funext d
    exact Bool.and_comm _ _

/-- The firing of the due cues leaves cues of the pool that lie beyond the generator position (R108). -/
theorem State.fireCues_cues (s : State) :
    s.fireCues.state.cues = s.cues.filter fun d => s.dueCues.all fun c => decide (d.id ≠ c.id) :=
  foldl_act_cues s.dueCues _

theorem State.mem_fireCues_cues {s : State} {c : Cue} (h : c ∈ s.fireCues.state.cues) :
    c ∈ s.cues ∧ s.gen.position.before c.fire = true := by
  rw [State.fireCues_cues, List.mem_filter] at h
  obtain ⟨hc, hall⟩ := h
  refine ⟨hc, ?_⟩
  by_contra hb
  have hdue : c ∈ s.dueCues := by simpa [State.dueCues, hc] using hb
  simpa using List.all_eq_true.1 hall c hdue

theorem State.fireCues_gen (s : State) : s.fireCues.state.gen = s.gen :=
  fireCues_touches s .gen (by simp)

/-! ### The steps of the generator -/

/-- What a generator step comes to (R29). -/
theorem State.generate_cases (s : State) :
    (s.transport.stopPoint = some s.gen.position ∧ s.generate = s.reachStop)
      ∨ s.transport.stopPoint ≠ some s.gen.position
        ∧ ((s.fireCues.stop = true ∧ s.generate = stopStep s.fireCues)
          ∨ (s.fireCues.stop = false ∧ s.generate = makeRecord false s.fireCues)) := by
  unfold State.generate
  dsimp only
  split
  · exact .inl ⟨‹_›, rfl⟩
  · split
    · exact .inr ⟨‹_›, .inl ⟨‹_›, rfl⟩⟩
    · next hs => exact .inr ⟨‹_›, .inr ⟨by simpa using hs, rfl⟩⟩

/-- What a launch step comes to (R28). -/
theorem State.launch_cases (s : State) :
    (s.transport.stopPoint = some s.gen.position ∧ s.launch = s.reachStop)
      ∨ s.transport.stopPoint ≠ some s.gen.position
        ∧ ((s.fireCues.stop = true ∧ s.launch = stopStep s.fireCues)
          ∨ (s.fireCues.stop = false ∧ s.launch =
            (makeRecord true { s.fireCues with state := s.fireCues.state.setLaunchN }).enter .running)) := by
  unfold State.launch
  dsimp only
  split
  · exact .inl ⟨‹_›, rfl⟩
  · split
    · exact .inr ⟨‹_›, .inl ⟨‹_›, rfl⟩⟩
    · next hs => exact .inr ⟨‹_›, .inr ⟨by simpa using hs, rfl⟩⟩

/-- The part as a step that a STOP cue ends reaches its stop point (R111). -/
def Firing.beforeStop (f : Firing) : State :=
  (f.state.handChanges f.changes).postGiven false f.state.gen.position f.given

theorem stopStep_eq (f : Firing) : stopStep f = f.beforeStop.reachStop := rfl

theorem Firing.beforeStop_touches (f : Firing) : Touches [.lanes, .notices] f.state f.beforeStop :=
  (Touches.mono (as := [.lanes]) (touches_lanes f.state _)).trans (postGiven_touches _ _ _ _).mono

/-- The engine under which a record is made: a pending meter is applied at a bar start (R19). -/
def State.makingEngine (s : State) : Engine :=
  if s.gen.position.barStart then s.engine.applyMeter else s.engine

theorem State.applyMeter_eq (s : State) : s.applyMeter = { s with engine := s.makingEngine } := by
  unfold State.applyMeter State.makingEngine
  split <;> rfl

section Making

variable (launch : Bool) (f : Firing)

theorem makeRecord_engine : (makeRecord launch f).engine = f.state.makingEngine.afterRecord := by
  obtain ⟨-, -, -, -, he, -⟩ := makeRecord_spec launch f
  rw [he, State.applyMeter_eq]

theorem makeRecord_gen : (makeRecord launch f).gen =
    ⟨f.state.gen.position.advance f.state.makingEngine.meter, f.state.gen.pulse + 1,
      f.state.gen.n + BitVec.ofInt 80
        ((f.state.makingEngine.interval : Int) + f.state.makingEngine.slipPortion)⟩ := by
  obtain ⟨-, -, -, hg, -⟩ := makeRecord_spec launch f
  rw [hg, State.applyMeter_eq]

theorem makeRecord_player (i : Fin 4) : (makeRecord launch f).player i =
    ((f.state.player i).atRecord launch f.state.gen.position.barStart f.state.gen.position.index).1 := by
  obtain ⟨-, hp, -⟩ := makeRecord_spec launch f
  rw [State.player, hp, State.applyMeter_eq]
  simp [State.playersAt, State.player]

theorem makeRecord_cues : (makeRecord launch f).cues =
    if f.state.gen.position.lastOfBar f.state.makingEngine.meter ∧ Config.lastBar ≤ f.state.gen.position.bar then []
    else if f.state.gen.position.lastOfBar f.state.makingEngine.meter then
      carryCues f.state.gen.position.bar f.state.makingEngine.meter f.state.cues
    else f.state.cues := by
  obtain ⟨-, -, -, -, -, hc, -⟩ := makeRecord_spec launch f
  rw [hc, State.applyMeter_eq]

/-- The making of a record appends it to the queue; its pulse, time and interval are the generator's (R41). -/
theorem makeRecord_queue : ∃ r, (makeRecord launch f).queue = f.state.queue ++ [r]
    ∧ r.pulse = f.state.gen.pulse ∧ r.refTime = grainsToTime f.state.gen.n := by
  obtain ⟨hq, -⟩ := makeRecord_spec launch f
  rw [State.applyMeter_eq] at hq
  exact ⟨_, hq, rfl, rfl⟩

end Making

/-- Setting N at a launch leaves all but the generator alone, and of that the position and the pulse. -/
theorem setLaunchN_spec (s : State) : s.setLaunchN.gen.position = s.gen.position
    ∧ s.setLaunchN.gen.pulse = s.gen.pulse
    ∧ ∀ t, s.transport.launchTime = some t → s.setLaunchN.gen.n = timeToGrains t := by
  unfold State.setLaunchN
  split
  · next h => exact ⟨rfl, rfl, fun u hu => by rw [h] at hu; cases hu; rfl⟩
  · next h => exact ⟨rfl, rfl, fun u hu => by rw [h] at hu; cases hu⟩

/-! ### The actions of cues -/

/-- Every cue of the pool has its arguments in their ranges (R103). -/
def State.CuesLegal (s : State) : Prop := ∀ c ∈ s.cues, c.action.Legal

theorem cuesLegal_dependsOn : DependsOn [.cues] State.CuesLegal := by
  refine ⟨fun s t h hs => ?_⟩
  have hc : t.cues = s.cues := h .cues (by simp)
  rwa [State.CuesLegal, hc]

/-- An action that is read has its arguments in their ranges (R103). -/
theorem readAction_legal {k : ActionKind} {args : BitVec 48} {a : CueAction} {b : Bool}
    (h : readAction k args = some (a, b)) : a.Legal := by
  cases k with
  | mute | unmute =>
    rw [readAction] at h
    split at h
    · cases h
    · next hne => cases h; exact hne
  | loadRow | halfLoad =>
    rw [readAction] at h
    split at h
    · cases h
    · split at h
      · next hr => cases h; exact hr
      · cases h
  | tempo =>
    cases h
    obtain ⟨hlo, hhi, -⟩ := clampNat_spec (lo := Config.tempoMin) (hi := Config.tempoMax) (v := (argWord args).toNat)
      (by decide)
    obtain ⟨-, hg, -⟩ := clampNat_spec (lo := 0) (hi := Config.glideBeatsMax) (v := (argByte args 2).toNat)
      (by decide)
    exact ⟨hlo, hhi, hg⟩
  | meter =>
    rw [readAction] at h
    split at h
    · next hr => cases h; exact hr
    · cases h
  | stop | mark => cases h; trivial

theorem mem_insertCue {c d : Cue} {cs : List Cue} : d ∈ insertCue c cs ↔ d = c ∨ d ∈ cs := by
  induction cs with
  | nil => simp [insertCue]
  | cons e cs ih =>
    rw [insertCue]
    split
    · simp
    · simp [ih, or_left_comm]

/-- SCHEDULE_CUE leaves the part, or takes a cue of legal action into the pool, at a place that does not lie
behind the generator, in a slot that is free (R104, R105). -/
theorem scheduleCueBody_cases (p : Port) (r : RawCue) (s : State) :
    (scheduleCueBody p r s).1 = s
      ∨ ∃ c t policy, (scheduleCueBody p r s).1 = { s with cues := insertCue c s.cues } ∧ c.action.Legal
        ∧ c.owner = p ∧ s.cueCount p ≠ s.allocation p ∧ readTrigger r = some t
        ∧ s.place t policy = some (c.fire, c.late) ∧ freeSlot s.cues = some c.id := by
  unfold scheduleCueBody
  split
  · exact .inl rfl
  · split
    · exact .inl rfl
    · split
      · next hread =>
        dsimp only
        split
        · exact .inl rfl
        · split
          · exact .inl rfl
          · split
            · exact .inl rfl
            · split
              · exact .inr ⟨_, _, _, rfl, readAction_legal hread, rfl, ‹_›, ‹_›, ‹_›, ‹_›⟩
              · exact .inl rfl
              · exact .inl rfl
      · exact .inl rfl

theorem cancelCueBody_cases (p : Port) (id : Byte) (tag : BitVec 16) (s : State) :
    (cancelCueBody p id tag s).1 = s
      ∨ (cancelCueBody p id tag s).1 = { s with cues := s.cues.filter fun d => decide (d.id ≠ id.toNat) } := by
  unfold cancelCueBody
  (repeat' split) <;> simp [refusal]

theorem closePort_cues (s : State) (p : Port) :
    (s.closePort p).cues = s.cues.filter fun c => decide (c.owner ≠ p) := by
  have hmark : Touches [.profiles] s (s.markClosed p) := touches_setPort_profile s p _ rfl rfl
  have harb : Touches leadBlocks (s.markClosed p) ((s.markClosed p).arbiterCloses p) := arbiterCloses_touches _ p
  have hafter : ∀ u : State, (((u.removeCues p).setWriteSetting p WriteSettings.reset).emptyNotices p).cues
      = u.cues.filter fun c => decide (c.owner ≠ p) :=
    fun u => emptyNotices_touches ((u.removeCues p).setWriteSetting p WriteSettings.reset) p .cues (by simp)
  have hbefore : (((s.markClosed p).arbiterCloses p).releaseClaims p).cues = s.cues :=
    Eq.trans (harb .cues (by simp) : _ = _) (hmark .cues (by simp))
  unfold State.closePort
  rw [hafter, hbefore]

theorem dropAllCues_cues (s : State) : s.dropAllCues.cues = [] := rfl

theorem locateBody_cases (bar : BitVec 16) (beat : Byte) (s : State) :
    (locateBody bar beat s).1 = s ∨ s.transport.state = .stopped ∧ (locateBody bar beat s).1
      = State.dropAllCues { s with gen := { s.gen with position := (s.locatePosition bar beat).1 } } := by
  unfold locateBody
  split
  · exact .inr ⟨‹_›, rfl⟩
  · exact .inl rfl

theorem gridResetBody_cases (s : State) :
    (gridResetBody s).1 = s ∨ s.transport.state = .stopped ∧ (gridResetBody s).1
      = (State.dropAllCues { s with gen := { s.gen with position := ⟨1, 1, 0⟩, pulse := 0 } }).playersHome := by
  unfold gridResetBody
  split
  · exact .inr ⟨‹_›, rfl⟩
  · exact .inl rfl

theorem CuesLegal.makeRecord {f : Firing} (hs : f.state.CuesLegal) (launch : Bool) :
    (makeRecord launch f).CuesLegal := by
  rw [State.CuesLegal, makeRecord_cues]
  split
  · simp
  · split
    · simp only [carryCues, List.mem_map, forall_exists_index, and_imp, forall_apply_eq_imp_iff₂]
      intro c hc
      split
      · exact hs c hc
      · exact hs c hc
    · exact hs

theorem CuesLegal.fireCues {s : State} (hs : s.CuesLegal) : s.fireCues.state.CuesLegal :=
  fun c hc => hs c (State.mem_fireCues_cues hc).1

theorem CuesLegal.body (i : Instr) :
    ForBody i fun p c b => ∀ s, ((s.port p).isOpen = true ∨ openExempt c = true) →
      s.rstLow = false → s.CuesLegal → (b s).1.CuesLegal := by
  cases i with
  | closePort p =>
    intro s _ _ hs c hc
    rw [closePort_cues] at hc
    exact hs c (List.mem_filter.1 hc).1
  | locate p bar beat =>
    intro s _ _ hs
    obtain e | ⟨-, e⟩ := asLeader_cases p (locateBody bar beat) s <;> rw [e]
    · exact hs
    · obtain e | ⟨-, e⟩ := locateBody_cases bar beat s <;> rw [e]
      · exact hs
      · simp [State.CuesLegal, dropAllCues_cues]
  | gridReset p =>
    intro s _ _ hs
    obtain e | ⟨-, e⟩ := asLeader_cases p gridResetBody s <;> rw [e]
    · exact hs
    · obtain e | ⟨-, e⟩ := gridResetBody_cases s <;> rw [e]
      · exact hs
      · simp [State.CuesLegal, State.playersHome, dropAllCues_cues]
  | scheduleCue p r =>
    intro s _ _ hs
    obtain e | ⟨c, t, policy, e, hc, -⟩ := scheduleCueBody_cases p r s <;> rw [e]
    · exact hs
    · intro d hd
      obtain rfl | hd := mem_insertCue.1 hd
      · exact hc
      · exact hs d hd
  | cancelCue p id tag =>
    intro s _ _ hs
    obtain e | e := cancelCueBody_cases p id tag s <;> rw [e]
    · exact hs
    · exact fun c hc => hs c (List.mem_filter.1 hc).1
  | _ => exact ForBody.of_dependsOn cuesLegal_dependsOn fun _ hs => hs

theorem CuesLegal.event {i : Instr} {s t : State} (h : EventDoes s t i) (hs : s.CuesLegal) : t.CuesLegal := by
  have hstop : ∀ u : State, u.CuesLegal → u.reachStop.CuesLegal :=
    fun u hu => cuesLegal_dependsOn.keep (reachStop_touches u) hu
  have hstep : (stopStep s.fireCues).CuesLegal :=
    hstop _ (cuesLegal_dependsOn.keep (Firing.beforeStop_touches _) (CuesLegal.fireCues hs))
  cases i with
  | reset => subst h; simp [State.CuesLegal, State.reset]
  | launchStep =>
    obtain ⟨-, rfl⟩ := h
    obtain ⟨-, e⟩ | ⟨-, ⟨-, e⟩ | ⟨-, e⟩⟩ := s.launch_cases <;> rw [e]
    · exact hstop s hs
    · exact hstep
    · refine cuesLegal_dependsOn.keep (enter_touches _ _) (CuesLegal.makeRecord ?_ _)
      exact cuesLegal_dependsOn.keep (setLaunchN_touches _) (CuesLegal.fireCues hs)
  | generatorStep =>
    obtain ⟨-, rfl⟩ := h
    obtain ⟨-, e⟩ | ⟨-, ⟨-, e⟩ | ⟨-, e⟩⟩ := s.generate_cases <;> rw [e]
    · exact hstop s hs
    · exact hstep
    · exact CuesLegal.makeRecord (CuesLegal.fireCues hs) _
  | _ => exact cuesLegal_dependsOn.event h hs

end Sys2Proof.Machine

/-! PROOF. The invariant of the pattern memory and the players (chapter 7): what a player does at a record, at a
stop point and at a load keeps it in its ranges, and its play register canonical. -/

namespace Sys2Proof.Machine

/-! ### One player -/

/-- A player in its ranges with a canonical play register. -/
structure Player.Sound (pl : Player) : Prop where
  register : Memory.wf cellsPerRow pl.register = true
  legal : pl.Legal

theorem Player.sound_iff {pl : Player} : pl.Sound ↔ Memory.wf cellsPerRow pl.register = true ∧ pl.Legal :=
  ⟨fun ⟨hw, hl⟩ => ⟨hw, hl⟩, fun ⟨hw, hl⟩ => ⟨hw, hl⟩⟩

theorem halfOf_upper {n : Nat} (h : 32 ≤ n) : halfOf n = .upper := by simp [halfOf, Nat.not_lt.2 h]

theorem halfOf_lower {n : Nat} (h : n < 32) : halfOf n = .lower := by simp [halfOf, h]

theorem Half.start_add_le {h : Half} {t : Nat} (ht : t ≤ 31) : h.start + t ≤ 63 := by
  cases h <;> simp [Half.start] <;> omega

section Player

variable {pl : Player}

theorem Player.Legal.takeLength (h : pl.Legal) : pl.takeLength.Legal := by
  unfold Player.takeLength
  split
  · next l hl =>
    obtain ⟨hc, hh, -, -, hp, hrest⟩ := h
    exact ⟨hc, hh, (hp l hl).1, (hp l hl).2, by simp, hrest⟩
  · exact h

theorem Player.takeLength_register : pl.takeLength.register = pl.register := by
  unfold Player.takeLength
  split <;> rfl

/-- A primed player with another cursor, half tap and row jump is legal when these are. -/
theorem Player.Legal.place (h : pl.Legal) (hp : pl.primed = true) {c : Nat} {t : Option (Half × Nat)}
    {j : Option Nat} (hc : c ≤ 63) (ht : ∀ h' t', t = some (h', t') → t' ≤ 31 ∧ h' ≠ halfOf c ∧ j = none)
    (hj : ∀ j', j = some j' → j' ≤ 63) :
    Player.Legal { pl with cursor := c, halfTap := t, rowJump := j } := by
  obtain ⟨-, hh, hl, hl', hp', hs, hs', -, -, -⟩ := h
  exact ⟨hc, hh, hl, hl', hp', hs, hs', ht, hj, by simp [hp]⟩

/-- Entering a half is lawful for a player whose half tap is for that half, if it has one (R132). -/
theorem Player.Legal.enterHalf (h : pl.Legal) (hp : pl.primed = true) (hj : pl.rowJump = none) {h' : Half}
    (hopp : halfOf pl.cursor = h'.other) : (pl.enterHalf h').Legal := by
  have hle := fun t ht => Half.start_add_le (h := h') (t := t) ht
  obtain ⟨-, -, -, -, -, -, -, htap, -, -⟩ := id h
  unfold Player.enterHalf
  split
  · next k t ht =>
    obtain ⟨hlt, hne, -⟩ := htap k t ht
    split
    · exact h.place hp (hle t hlt) (by simp) (by simp [hj])
    · next hk =>
      exact absurd (by rw [hopp] at hne; cases k <;> cases h' <;> simp_all [Half.other]) hk
  · next ht => exact h.place hp (hle 0 (by omega)) (by simp [ht]) (by simp [hj])

theorem Player.enterHalf_register (h' : Half) : (pl.enterHalf h').register = pl.register := by
  unfold Player.enterHalf
  (repeat' split) <;> rfl

theorem Player.Legal.move (h : pl.Legal) (hp : pl.primed = true) : pl.move.Legal := by
  obtain ⟨hc, -, -, -, -, -, -, htap, hjump, -⟩ := id h
  unfold Player.move
  split
  · next j hj =>
    refine h.place hp (hjump j hj) (fun k t ht => ?_) (by simp)
    simp [hj] at htap
    exact absurd ht (htap k t)
  · next hj =>
    split
    · next h31 => exact h.enterHalf hp hj (by rw [h31]; rfl)
    · split
      · next h63 => exact h.enterHalf hp hj (by rw [h63]; rfl)
      · next h31 h63 =>
        refine h.place hp (by omega) (fun k t ht => ?_) (by simp [hj])
        obtain ⟨hlt, hne, hnone⟩ := htap k t ht
        refine ⟨hlt, ?_, hnone⟩
        by_cases hlow : pl.cursor < 32
        · rwa [halfOf_lower (by omega), ← halfOf_lower hlow]
        · rwa [halfOf_upper (by omega), ← halfOf_upper (by omega : 32 ≤ pl.cursor)]

theorem Player.move_register : pl.move.register = pl.register := by
  unfold Player.move
  (repeat' split)
  · rfl
  · exact Player.enterHalf_register _
  · exact Player.enterHalf_register _
  · rfl

theorem Player.Legal.goHome (h : pl.Legal) (hp : pl.primed = true) : pl.goHome.Legal := by
  obtain ⟨-, hhome, -, -, -, -, -, htap, hjump, -⟩ := id h
  unfold Player.goHome
  split
  · next k t ht =>
    obtain ⟨hlt, -, hnone⟩ := htap k t ht
    split
    · exact h.place hp (Half.start_add_le hlt) (by simp) hjump
    · next hk =>
      refine h.place hp hhome (fun k' t' ht' => ?_) hjump
      rw [ht] at ht'
      cases ht'
      exact ⟨hlt, hk, hnone⟩
  · next ht => exact h.place hp hhome (by simp [ht]) hjump

theorem Player.goHome_primed : pl.goHome.primed = pl.primed := by
  unfold Player.goHome
  (repeat' split) <;> rfl

theorem Player.goHome_register : pl.goHome.register = pl.register := by
  unfold Player.goHome
  (repeat' split) <;> rfl

theorem Player.Sound.goHome (h : pl.Sound) (hp : pl.primed = true) : pl.goHome.Sound :=
  ⟨by rw [Player.goHome_register]; exact h.1, h.2.goHome hp⟩

/-- A row jump that is withdrawn or carried out leaves a legal player. -/
theorem Player.Legal.withoutJump (h : pl.Legal) (hp : pl.primed = true) :
    Player.Legal { pl with rowJump := none } := by
  obtain ⟨hc, -, -, -, -, -, -, htap, -, -⟩ := id h
  exact h.place hp hc (fun k t ht => ⟨(htap k t ht).1, (htap k t ht).2.1, rfl⟩) (by simp)

theorem Player.Sound.stopPlace (h : pl.Sound) : pl.stopPlace.Sound := by
  obtain ⟨hw, hl⟩ := h
  obtain ⟨-, -, -, -, -, -, -, htap, hjump, -⟩ := id hl
  unfold Player.stopPlace
  split
  · next hp =>
    split
    · next j hj =>
      refine ⟨hw, hl.place hp (hjump j hj) (fun k t ht => ?_) (by simp)⟩
      simp [hj] at htap
      exact absurd ht (htap k t)
    · exact ⟨hw, hl⟩
  · exact ⟨hw, hl⟩

theorem Player.Sound.atRecord (h : pl.Sound) (launch barStart : Bool) (index : Nat) :
    (pl.atRecord launch barStart index).1.Sound := by
  have hlength : (if barStart then pl.takeLength else pl).Sound := by
    split
    · exact ⟨by rw [Player.takeLength_register]; exact h.1, h.2.takeLength⟩
    · exact h
  unfold Player.atRecord
  dsimp only
  generalize (if barStart then pl.takeLength else pl) = d at hlength ⊢
  split
  · next hp =>
    have hp : d.primed = true := (Bool.and_eq_true_iff.1 hp).1
    split
    · obtain ⟨hw, hl⟩ := hlength.goHome hp
      exact ⟨hw, hl.withoutJump (by rw [Player.goHome_primed]; exact hp)⟩
    · exact ⟨by rw [Player.move_register]; exact hlength.1, hlength.2.move hp⟩
  · exact hlength

/-- A row that exists, loaded at a step that exists, leaves a sound player (R135). -/
theorem Player.Sound.loadRow (h : pl.Sound) {mem : List Host.Cell} (hm : Memory.wf cellsInMemory mem = true)
    {row tap : Nat} (hr : row ≤ 127) (ht : tap ≤ 63) (making : Bool) :
    (pl.loadRow mem row tap making).Sound := by
  obtain ⟨-, hc, -, hl, hl', hp, -, -, -, -, -⟩ := h
  refine ⟨Player.wf_loadRow hm row tap making, ?_, ht, hl, hl', hp, hr, hr, by simp [Player.loadRow], ?_,
    by simp [Player.loadRow]⟩
  · change (if making && pl.primed then pl.cursor else tap) ≤ 63
    split
    · exact hc
    · exact ht
  · intro j hj
    change (if making then some tap else none) = some j at hj
    split at hj
    · cases hj; exact ht
    · cases hj

/-- Half a row that exists, loaded into a primed player with no row jump (R137). -/
theorem Player.Sound.loadHalf (h : pl.Sound) {mem : List Host.Cell} (hm : Memory.wf cellsInMemory mem = true)
    {row tap : Nat} (hr : row ≤ 127) (ht : tap ≤ 31) (hp : pl.primed = true) (hj : pl.rowJump = none) :
    (pl.loadHalf mem row tap).Sound := by
  refine ⟨Player.wf_loadHalf hm h.1 row tap, ?_⟩
  obtain ⟨-, hc, hh, hl, hl', hpl, hs, hs', -, -, -⟩ := h
  have htap : ∀ k, (halfOf pl.cursor).other = k → k ≠ halfOf pl.cursor := by
    intro k hk
    subst hk
    cases halfOf pl.cursor <;> simp [Half.other]
  unfold Player.loadHalf
  split
  · next hk =>
    exact ⟨hc, hh, hl, hl', hpl, hr, hs', fun k t hkt => by cases hkt; exact ⟨ht, htap _ hk, hj⟩,
      by simp [hj], by simp [hp]⟩
  · next hk =>
    exact ⟨hc, hh, hl, hl', hpl, hs, hr, fun k t hkt => by cases hkt; exact ⟨ht, htap _ hk, hj⟩,
      by simp [hj], by simp [hp]⟩

theorem Player.Sound.withLength (h : pl.Sound) {n : Nat} (h1 : 1 ≤ n) (h96 : n ≤ 96) :
    Player.Sound { pl with pendingLength := some n } := by
  obtain ⟨hw, hc, hh, hl, hl', -, hrest⟩ := h
  exact ⟨hw, hc, hh, hl, hl', fun l hl => by cases hl; exact ⟨h1, h96⟩, hrest⟩

theorem Player.reset_sound : Player.reset.Sound := by
  simp [Player.sound_iff, Player.Legal, Player.reset, Memory.wf, Memory.risesFrom]

end Player

/-! ### The part -/

/-- The pattern memory is canonical and every player sound. -/
def State.PatternsSound (s : State) : Prop :=
  Memory.wf cellsInMemory s.patternMem = true ∧ ∀ i, (s.player i).Sound

theorem patternsSound_iff (s : State) :
    s.MemoryInv ∧ s.PlayerInv ↔ s.PatternsSound ∧ s.CuesLegal := by
  simp only [State.MemoryInv, State.PlayerInv, State.PatternsSound, State.CuesLegal, Player.sound_iff, forall_and]
  tauto

theorem patternsSound_dependsOn : DependsOn [.patternMem, .players] State.PatternsSound := by
  refine ⟨fun s t h hs => ?_⟩
  have hm : t.patternMem = s.patternMem := h .patternMem (by simp)
  have hp : t.players = s.players := h .players (by simp)
  simpa [State.PatternsSound, State.player, hm, hp] using hs

namespace PatternsSound

variable {s : State}

theorem setPlayer (hs : s.PatternsSound) {i : Fin 4} {d : Player} (hd : d.Sound) :
    (s.setPlayer i d).PatternsSound := by
  refine ⟨hs.1, fun j => ?_⟩
  rw [State.setPlayer_player]
  split
  · exact hd
  · exact hs.2 j

theorem reachStop (hs : s.PatternsSound) : s.reachStop.PatternsSound := by
  have hm : s.reachStop.patternMem = s.patternMem := reachStop_touches s .patternMem (by simp)
  refine ⟨by rw [hm]; exact hs.1, fun i => ?_⟩
  rw [State.reachStop_player]
  exact (hs.2 i).stopPlace

theorem makeRecord {f : Firing} (hs : f.state.PatternsSound) (launch : Bool) :
    (makeRecord launch f).PatternsSound := by
  have hm : (Machine.makeRecord launch f).patternMem = f.state.patternMem :=
    makeRecord_touches launch f .patternMem (by simp)
  refine ⟨by rw [hm]; exact hs.1, fun i => ?_⟩
  rw [makeRecord_player]
  exact (hs.2 i).atRecord _ _ _

/-- The due cues fire with actions whose rows and taps exist (R109). -/
theorem fireCues (hs : s.PatternsSound) (hc : s.CuesLegal) : s.fireCues.state.PatternsSound := by
  refine State.fireCues_keeps hs fun f c hmem hf => ?_
  have hlegal := hc c hmem
  have hf : (f.remove c).state.PatternsSound := hf
  obtain e | ⟨i, row, tap, ha, e⟩ | ⟨i, row, tap, ha, hp, hj, e⟩ | ⟨v, g, -, e⟩ | ⟨m, -, e⟩ :=
    (f.remove c).act_cases c <;> rw [e]
  · exact hf
  · rw [ha] at hlegal
    exact setPlayer hf ((hf.2 i).loadRow hf.1 hlegal.1 hlegal.2 _)
  · rw [ha] at hlegal
    exact setPlayer hf ((hf.2 i).loadHalf hf.1 hlegal.1 hlegal.2 hp hj)
  · exact hf
  · exact hf

theorem stopStep (hs : s.PatternsSound) (hc : s.CuesLegal) : (stopStep s.fireCues).PatternsSound :=
  reachStop (patternsSound_dependsOn.keep (Firing.beforeStop_touches _) (fireCues hs hc))

theorem generate (hs : s.PatternsSound) (hc : s.CuesLegal) : s.generate.PatternsSound := by
  obtain ⟨-, e⟩ | ⟨-, ⟨-, e⟩ | ⟨-, e⟩⟩ := s.generate_cases <;> rw [e]
  · exact reachStop hs
  · exact stopStep hs hc
  · exact makeRecord (fireCues hs hc) _

theorem launch (hs : s.PatternsSound) (hc : s.CuesLegal) : s.launch.PatternsSound := by
  obtain ⟨-, e⟩ | ⟨-, ⟨-, e⟩ | ⟨-, e⟩⟩ := s.launch_cases <;> rw [e]
  · exact reachStop hs
  · exact stopStep hs hc
  · refine patternsSound_dependsOn.keep (enter_touches _ _) (makeRecord ?_ _)
    exact patternsSound_dependsOn.keep (setLaunchN_touches _) (fireCues hs hc)

theorem playersHome (hs : s.PatternsSound) : s.playersHome.PatternsSound := by
  refine ⟨hs.1, fun i => ?_⟩
  have e : s.playersHome.player i = if (s.player i).primed then (s.player i).goHome else s.player i := by
    simp [State.player, State.playersHome]
  rw [e]
  split
  · next hp => exact (hs.2 i).goHome hp
  · exact hs.2 i

theorem withMemory (hs : s.PatternsSound) {m : List Host.Cell} (hm : Memory.wf cellsInMemory m = true) :
    State.PatternsSound { s with patternMem := m } := ⟨hm, hs.2⟩

end PatternsSound

/-- What keeps the part sound, the operation behind the check for the clear keeps it. -/
theorem afterClear_keeps {P : State → Prop} {s : State} {body : State → State × Answer} (hs : P s)
    (h : P (body s).1) : P (afterClear body s).1 := by
  obtain e | e := afterClear_cases body s <;> rwa [e]

/-- What keeps the part sound for a player in bounds, the operation behind the player checks keeps it. -/
theorem withPlayer_keeps {P : State → Prop} {s : State} {p : Port} {player : Byte} {ok : Bool}
    {body : Fin 4 → State → State × Answer} (hs : P s) (h : ∀ i, ok = true → P (body i s).1) :
    P (withPlayer p player ok body s).1 := by
  obtain e | ⟨i, hok, e⟩ := withPlayer_cases p player ok body s <;> rw [e]
  · exact hs
  · exact h i hok

/-- A command's body keeps the memory canonical and the players sound. -/
theorem PatternsSound.body (i : Instr) :
    ForBody i fun p c b => ∀ s, ((s.port p).isOpen = true ∨ openExempt c = true) →
      s.rstLow = false → s.PatternsSound → (b s).1.PatternsSound := by
  cases i with
  | stop p q =>
    intro s _ _ hs
    obtain e | ⟨-, e⟩ := asLeader_cases p (stopBody q) s <;> rw [e]
    · exact hs
    · obtain e | ⟨-, e⟩ | ⟨x, -, e⟩ := stopBody_cases q s <;> rw [e]
      · exact hs
      · exact patternsSound_dependsOn.keep (toStopped_touches s) hs
      · obtain ⟨-, e⟩ | ⟨-, h⟩ := s.setStop_cases x
        · rw [e]; exact reachStop hs
        · exact patternsSound_dependsOn.keep h hs
  | gridReset p =>
    intro s _ _ hs
    obtain e | ⟨-, e⟩ := asLeader_cases p gridResetBody s <;> rw [e]
    · exact hs
    · obtain e | ⟨-, e⟩ := gridResetBody_cases s <;> rw [e]
      · exact hs
      · refine playersHome (patternsSound_dependsOn.keep (dropAllCues_touches _) ?_)
        exact patternsSound_dependsOn.keep (touches_gen s _) hs
  | writeSteps p row first count planes levels =>
    refine fun s _ _ hs => afterClear_keeps hs ?_
    unfold writeStepsBody
    split
    · next hr => exact withMemory hs (Memory.wf_writeRun hr.1 _ _ (by simp; omega) hs.1)
    · exact hs
  | blockFill p row step positions planes =>
    refine fun s _ _ hs => afterClear_keeps hs ?_
    unfold blockFillBody
    split
    · next hr =>
      refine withMemory hs (Memory.wf_fillSteps hr.1 _ _ _ (fun x hx => ?_) hs.1)
      simp only [blockSteps, List.mem_map, List.mem_filter] at hx
      obtain ⟨j, ⟨hj, -⟩, rfl⟩ := hx
      have : j ≤ 3 := by simp at hj; omega
      omega
    · exact hs
  | rowFill p row planes =>
    refine fun s _ _ hs => afterClear_keeps hs ?_
    unfold rowFillBody
    split
    · next hr => exact withMemory hs (Memory.wf_fillSteps hr _ _ _ (fun x hx => by simp at hx; omega) hs.1)
    · exact hs
  | loadRow p n row tap =>
    refine fun s _ _ hs => afterClear_keeps hs (withPlayer_keeps hs fun i hok => ?_)
    have hok := of_decide_eq_true hok
    exact setPlayer hs ((hs.2 i).loadRow hs.1 hok.1 hok.2 _)
  | halfLoad p n row tap =>
    refine fun s _ _ hs => afterClear_keeps hs (withPlayer_keeps hs fun i hok => ?_)
    have hok := of_decide_eq_true hok
    unfold halfLoadBody
    dsimp only
    split
    · next hp =>
      split
      · exact hs
      · next hj => exact setPlayer hs ((hs.2 i).loadHalf hs.1 hok.1 hok.2 hp (by simpa using hj))
    · exact hs
  | setStepLength p n length =>
    refine fun s _ _ hs => afterClear_keeps hs (withPlayer_keeps hs fun i _ => ?_)
    obtain ⟨hlo, hhi, -⟩ := clampNat_spec (lo := 1) (hi := 96) (v := length.toNat) (by decide)
    exact setPlayer hs ((hs.2 i).withLength hlo hhi)
  | _ => exact ForBody.of_dependsOn patternsSound_dependsOn fun _ hs => hs

/-- An event keeps the memory canonical and the players sound. -/
theorem PatternsSound.event {i : Instr} {s t : State} (h : EventDoes s t i) (hs : s.PatternsSound)
    (hc : s.CuesLegal) : t.PatternsSound := by
  cases i with
  | reset =>
    subst h
    exact ⟨hs.1, fun i => by simpa [State.player, State.reset] using Player.reset_sound⟩
  | patternClearEnd => obtain ⟨-, rfl⟩ := h; exact withMemory hs rfl
  | launchStep => obtain ⟨-, rfl⟩ := h; exact launch hs hc
  | generatorStep => obtain ⟨-, rfl⟩ := h; exact generate hs hc
  | _ => exact patternsSound_dependsOn.event h hs

/-- Settles O56: the memory and the players are kept by the loads, the moves and the writes, the rows and taps that
wait in cues by the reading of a cue, and everything else leaves them alone. -/
theorem stepsKeepPatternsAndPlayersLegal : Obligations.StepsKeepPatternsAndPlayersLegal := by
  have hdep : DependsOn [.patternMem, .players, .cues] fun s => s.PatternsSound ∧ s.CuesLegal :=
    ⟨fun s t h hs => ⟨patternsSound_dependsOn.carry s t (fun b hb => h b (by simp at hb ⊢; tauto)) hs.1,
      cuesLegal_dependsOn.carry s t (fun b hb => h b (by simp at hb ⊢; tauto)) hs.2⟩⟩
  simp only [Obligations.StepsKeepPatternsAndPlayersLegal, patternsSound_iff]
  refine step_keeps_of_dependsOn hdep hdep (fun _ hs => hs) (fun s hs _ _ => hs) (fun i => ?_)
    fun i s t h hs => ⟨PatternsSound.event h hs.1 hs.2, CuesLegal.event h hs.2⟩
  exact ForBody.intro fun p c b hb s ho hr hs =>
    ⟨(PatternsSound.body i).elim hb s ho hr hs.1, (CuesLegal.body i).elim hb s ho hr hs.2⟩

end Sys2Proof.Machine

/-! PROOF. The invariant of the cue pool (chapter 6): a cue that is taken goes to its place, the firing takes every due
cue away, and the carry of a short bar keeps the order. -/

namespace Sys2Proof.Machine

/-! ### Places -/

/-- A place that cues and the generator position can have: a beat and a pulse that exist. -/
structure Position.InBar (x : Position) : Prop where
  beat : 1 ≤ x.beat
  pulse : x.pulse ≤ 95

theorem Position.before_false_iff (p q : Position) :
    p.before q = false ↔
      q.bar < p.bar ∨ q.bar = p.bar ∧ (q.beat < p.beat ∨ q.beat = p.beat ∧ q.pulse ≤ p.pulse) := by
  rw [← Bool.not_eq_true, Position.before_iff]
  omega

theorem barAfter_inBar (bar : Nat) : (barAfter bar).InBar := by
  unfold barAfter
  split <;> exact ⟨Nat.le_refl 1, Nat.zero_le 95⟩

theorem Position.advance_inBar (m : Nat) {x : Position} (h : x.InBar) : (x.advance m).InBar := by
  unfold Position.advance
  split
  · next hp => exact ⟨h.1, hp⟩
  · split
    · exact ⟨by simp, by simp⟩
    · exact barAfter_inBar x.bar

theorem State.nextBarStart_inBar {s : State} (h : s.gen.position.InBar) : s.nextBarStart.InBar := by
  unfold State.nextBarStart
  split
  · exact h
  · exact barAfter_inBar _

theorem State.nextBeatStart_inBar {s : State} (h : s.gen.position.InBar) : s.nextBeatStart.InBar := by
  unfold State.nextBeatStart
  dsimp only
  split
  · exact h
  · split
    · exact ⟨by simp, by simp⟩
    · exact State.nextBarStart_inBar h

/-- A trigger that is read resolves to a beat and a pulse that exist (R102). -/
theorem State.resolve_inBar {s : State} (h : s.gen.position.InBar) {r : RawCue} {t : Trigger}
    (hr : readTrigger r = some t) {x : Position} (hx : s.resolve t = some x) : x.InBar := by
  match t, hr, hx with
  | .at p, hr, hx =>
    cases hx
    unfold readTrigger at hr
    (repeat' split at hr) <;> simp only [Option.some.injEq, Trigger.at.injEq, reduceCtorEq, Option.map_eq_some_iff,
      and_false, exists_const] at hr
    next hlim => subst hr; exact ⟨hlim.2.1, hlim.2.2.2⟩
  | .nextBeat, _, hx =>
    simp only [State.resolve, Option.ite_none_left_eq_some, Option.some.injEq] at hx
    exact hx.2 ▸ State.nextBeatStart_inBar h
  | .nextBar, _, hx =>
    simp only [State.resolve, Option.ite_none_left_eq_some, Option.some.injEq] at hx
    exact hx.2 ▸ State.nextBarStart_inBar h
  | .nextPhrase k, _, hx =>
    simp only [State.resolve, Option.ite_none_right_eq_some, Option.some.injEq] at hx
    exact hx.2 ▸ ⟨Nat.le_refl 1, Nat.zero_le 95⟩

/-- A cue's place exists and does not lie behind the generator position (R105). -/
theorem State.place_spec {s : State} (h : s.gen.position.InBar) {r : RawCue} {t : Trigger}
    (hr : readTrigger r = some t) {policy : LatePolicy} {x : Position} {late : Bool}
    (hx : s.place t policy = some (x, late)) : x.InBar ∧ x.before s.gen.position = false := by
  unfold State.place at hx
  split at hx
  · cases hx
  · next q hq =>
    split at hx
    · split at hx
      · cases hx
      · cases hx; exact ⟨h, Position.before_irrefl _⟩
    · next hb => cases hx; exact ⟨State.resolve_inBar h hr hq, by simpa using hb⟩

/-! ### The pool -/

theorem insertCue_perm (c : Cue) (cs : List Cue) : (insertCue c cs).Perm (c :: cs) := by
  induction cs with
  | nil => exact List.Perm.refl _
  | cons d cs ih =>
    rw [insertCue]
    split
    · exact List.Perm.refl _
    · exact (ih.cons d).trans (List.Perm.swap c d cs)

/-- Pool order (R106). -/
def InPoolOrder (cs : List Cue) : Prop := cs.Pairwise fun c d => d.fire.before c.fire = false

theorem InPoolOrder.insertCue {cs : List Cue} (h : InPoolOrder cs) (c : Cue) : InPoolOrder (insertCue c cs) := by
  induction cs with
  | nil => exact List.pairwise_singleton _ c
  | cons d cs ih =>
    obtain ⟨hd, hcs⟩ := List.pairwise_cons.1 h
    rw [Machine.insertCue]
    split
    · next hcd =>
      refine List.pairwise_cons.2 ⟨fun e he => ?_, h⟩
      have hde : e.fire.before d.fire = false := by
        obtain rfl | he := List.mem_cons.1 he
        · exact Position.before_irrefl _
        · exact hd e he
      rw [Position.before_iff] at hcd
      rw [Position.before_false_iff] at hde ⊢
      omega
    · next hcd =>
      refine List.pairwise_cons.2 ⟨fun e he => ?_, ih hcs⟩
      obtain rfl | he := mem_insertCue.1 he
      · simpa using hcd
      · exact hd e he

/-- A free slot is one of the 128, and no cue has its number (R98). -/
theorem freeSlot_spec {cs : List Cue} {n : Nat} (h : freeSlot cs = some n) : n < 128 ∧ ∀ c ∈ cs, c.id ≠ n := by
  have hmem := List.mem_of_find?_eq_some h
  have hall := List.find?_some h
  exact ⟨List.mem_range.1 hmem, fun c hc => by simpa using List.all_eq_true.1 hall c hc⟩

theorem State.allocated_congr {s t : State} (h : t.allocations = s.allocations) : t.allocated = s.allocated := by
  have hp : t.allocation = s.allocation := funext fun p => congrArg (·[p.idx]) h
  rw [State.allocated, hp, State.allocated]

theorem poolInv_dependsOn : DependsOn [.cues, .gen, .allocations] State.PoolInv := by
  refine ⟨fun s t h hs => ?_⟩
  have hc : t.cues = s.cues := h .cues (by simp)
  have hg : t.gen = s.gen := h .gen (by simp)
  have ha : t.allocations = s.allocations := h .allocations (by simp)
  simpa [State.PoolInv, State.cueCount, State.allocation, State.allocated_congr ha, hc, hg, ha] using hs

theorem State.allocated_setAllocation (s : State) (p : Port) (n : Nat) :
    (s.setAllocation p n).allocated = s.allocated - s.allocation p + n := by
  cases p <;> simp [State.allocated, Port.all, State.setAllocation_allocation] <;> omega

namespace State.PoolInv

variable {s t : State}

theorem inBar (hs : s.PoolInv) : s.gen.position.InBar := by
  obtain ⟨-, -, -, -, ⟨hbeat, hpulse⟩, -⟩ := hs
  exact ⟨hbeat, hpulse⟩

/-- Cues that leave the pool leave it in order. -/
theorem of_sublist (hs : s.PoolInv) (hc : t.cues.Sublist s.cues) (hg : t.gen.position = s.gen.position)
    (ha : t.allocations = s.allocations) : t.PoolInv := by
  obtain ⟨hid, hne, hord, hplace, hx, hcount, halloc⟩ := hs
  refine ⟨fun c h => hid c (hc.subset h), hne.sublist hc, hord.sublist hc, fun c h => ?_, by rwa [hg], fun p => ?_, ?_⟩
  · rw [hg]; exact hplace c (hc.subset h)
  · have := (hc.filter fun c => c.owner = p).length_le
    have := hcount p
    simp only [State.cueCount, State.allocation, ha] at *
    omega
  · rw [State.allocated_congr ha]; exact halloc

/-- With no cue in the pool, the generator can stand at any place. -/
theorem of_empty (hs : s.PoolInv) (hc : t.cues = []) (hx : t.gen.position.InBar)
    (ha : t.allocations = s.allocations) : t.PoolInv := by
  obtain ⟨-, -, -, -, -, -, halloc⟩ := hs
  refine ⟨by simp [hc], by simp [hc], by simp [hc], by simp [hc], ⟨hx.beat, hx.pulse⟩,
    by simp [State.cueCount, hc], ?_⟩
  rw [State.allocated_congr ha]; exact halloc

/-- A cue at a place not behind the generator, in a free slot of a port with room, goes into the pool (R105). -/
theorem insert (hs : s.PoolInv) {c : Cue} (hx : c.fire.InBar) (hb : c.fire.before s.gen.position = false)
    (hid : freeSlot s.cues = some c.id) (hroom : s.cueCount c.owner ≠ s.allocation c.owner) :
    State.PoolInv { s with cues := insertCue c s.cues } := by
  obtain ⟨hids, hne, hord, hplace, hpos, hcount, halloc⟩ := hs
  obtain ⟨hlt, hfree⟩ := freeSlot_spec hid
  refine ⟨fun d hd => ?_, ?_, InPoolOrder.insertCue hord c, fun d hd => ?_, hpos, fun p => ?_, halloc⟩
  · obtain rfl | hd := mem_insertCue.1 hd
    · exact hlt
    · exact hids d hd
  · refine ((insertCue_perm c s.cues).pairwise_iff fun h => Ne.symm h).2 (List.pairwise_cons.2 ⟨?_, hne⟩)
    exact fun d hd => (hfree d hd).symm
  · obtain rfl | hd := mem_insertCue.1 hd
    · exact ⟨hx.beat, hx.pulse, hb⟩
    · exact hplace d hd
  · have hlen := ((insertCue_perm c s.cues).filter fun d => d.owner = p).length_eq
    have := hcount p
    simp only [State.cueCount, State.allocation] at *
    rw [hlen, List.filter_cons]
    split
    · next ho =>
      have ho : c.owner = p := of_decide_eq_true ho
      rw [ho] at hroom
      simp only [List.length_cons]
      omega
    · exact this

theorem fireCues (hs : s.PoolInv) : s.fireCues.state.PoolInv := by
  refine hs.of_sublist ?_ (congrArg Generator.position s.fireCues_gen) (fireCues_touches s .allocations (by simp))
  rw [State.fireCues_cues]
  exact List.filter_sublist

theorem reachStop (hs : s.PoolInv) : s.reachStop.PoolInv := poolInv_dependsOn.keep (reachStop_touches s) hs

theorem stopStep (hs : s.PoolInv) : (stopStep s.fireCues).PoolInv :=
  reachStop (poolInv_dependsOn.keep (Firing.beforeStop_touches _) (fireCues hs))

/-- Past the last pulse of a bar, the cues beyond the bar are carried to the next bar start, which is the
generator's next position (R107). -/
theorem carried {cs : List Cue} {x : Position} {m : Nat} (hlast : x.lastOfBar m = true) (hbar : x.bar < Config.lastBar)
    (hb : ∀ c ∈ cs, x.before c.fire = true) (hp : ∀ c ∈ cs, c.fire.InBar) (hord : InPoolOrder cs) :
    InPoolOrder (carryCues x.bar m cs)
      ∧ ∀ c ∈ carryCues x.bar m cs, c.fire.InBar ∧ c.fire.before (x.advance m) = false := by
  simp only [Position.lastOfBar, Bool.and_eq_true, decide_eq_true_eq] at hlast
  have hnext : x.advance m = ⟨x.bar + 1, 1, 0⟩ := by
    rw [Position.advance, if_neg (by omega), if_neg (by omega), barAfter, if_pos hbar]
  have hafter : barAfter x.bar = ⟨x.bar + 1, 1, 0⟩ := by rw [barAfter, if_pos hbar]
  have hbeyond : ∀ c ∈ cs, (c.fire.bar = x.bar ∧ m < c.fire.beat) ∨ x.bar < c.fire.bar := by
    intro c hc
    have := (Position.before_iff x c.fire).1 (hb c hc)
    have := (hp c hc).2
    omega
  constructor
  · refine List.pairwise_map.2 (hord.imp_of_mem fun {c d} hc hd hcd => ?_)
    have := hbeyond c hc
    have := hbeyond d hd
    have := (hp c hc).1
    have := (hp d hd).1
    rw [Position.before_false_iff] at hcd
    rw [hafter]
    split
    · split
      · exact Position.before_irrefl _
      · rw [Position.before_false_iff]; dsimp only; omega
    · split
      · rw [Position.before_false_iff]; dsimp only; omega
      · rw [Position.before_false_iff]; omega
  · intro c hc
    obtain ⟨d, hd, rfl⟩ := List.mem_map.1 hc
    have := hbeyond d hd
    rw [hnext, hafter]
    split
    · exact ⟨⟨Nat.le_refl 1, Nat.zero_le 95⟩, Position.before_irrefl _⟩
    · refine ⟨hp d hd, ?_⟩
      rw [Position.before_false_iff]
      have := (hp d hd).1
      dsimp only
      omega

/-- Elsewhere the cues beyond a position lie at or after the next one (R16). -/
theorem not_before_advance {x y : Position} {m : Nat} (hlast : x.lastOfBar m = false) (hb : x.before y = true)
    (hx : x.InBar) (hy : y.InBar) : y.before (x.advance m) = false := by
  simp only [Position.lastOfBar, Bool.and_eq_false_iff, decide_eq_false_iff_not] at hlast
  rw [Position.before_iff] at hb
  obtain ⟨-, hx⟩ := hx
  obtain ⟨-, hy⟩ := hy
  unfold Position.advance
  split
  · rw [Position.before_false_iff]; dsimp only; omega
  · rw [if_pos (by omega), Position.before_false_iff]; dsimp only; omega

/-- The making of a record, the due cues having left the pool, keeps it. -/
theorem makeRecord {f : Firing} (hs : f.state.PoolInv)
    (hb : ∀ c ∈ f.state.cues, f.state.gen.position.before c.fire = true) (launch : Bool) :
    (makeRecord launch f).PoolInv := by
  have hx := hs.inBar
  have ha : (Machine.makeRecord launch f).allocations = f.state.allocations :=
    makeRecord_touches launch f .allocations (by simp)
  have hg := makeRecord_gen launch f
  have hc := makeRecord_cues launch f
  split at hc
  · exact hs.of_empty hc (by rw [hg]; exact Position.advance_inBar _ hx) ha
  · next hwrap =>
    obtain ⟨hid, hne, hord, hplace, -, hcount, halloc⟩ := hs
    have hp : ∀ c ∈ f.state.cues, c.fire.InBar := fun c hc => ⟨(hplace c hc).1, (hplace c hc).2.1⟩
    have hnext := Position.advance_inBar f.state.makingEngine.meter hx
    have hsum : (Machine.makeRecord launch f).allocated ≤ 128 := by rw [State.allocated_congr ha]; exact halloc
    split at hc
    · next hlast =>
      obtain ⟨hord', hplace'⟩ := carried hlast (by simpa [hlast] using hwrap) hb hp hord
      refine ⟨?_, ?_, by rw [hc]; exact hord', ?_, by rw [hg]; exact ⟨hnext.beat, hnext.pulse⟩, fun p => ?_, hsum⟩
      · rw [hc]
        intro c hmem
        obtain ⟨d, hd, rfl⟩ := List.mem_map.1 hmem
        split <;> exact hid d hd
      · rw [hc]
        refine List.pairwise_map.2 (hne.imp fun {c d} hcd => ?_)
        split <;> split <;> exact hcd
      · rw [hc, hg]
        exact fun c hmem => ⟨(hplace' c hmem).1.1, (hplace' c hmem).1.2, (hplace' c hmem).2⟩
      · have hfilter : (carryCues f.state.gen.position.bar f.state.makingEngine.meter f.state.cues).countP
            (fun c => c.owner = p) = f.state.cues.countP fun c => c.owner = p := by
          rw [carryCues, List.countP_map]
          refine List.countP_congr fun c _ => ?_
          simp only [Function.comp_apply]
          split <;> rfl
        have := hcount p
        simp only [State.cueCount, State.allocation, ha, hc, ← List.countP_eq_length_filter] at *
        rwa [hfilter]
    · next hlast =>
      have hlast : f.state.gen.position.lastOfBar f.state.makingEngine.meter = false := by simpa using hlast
      refine ⟨by rwa [hc], by rwa [hc], by rwa [hc], ?_, by rw [hg]; exact ⟨hnext.beat, hnext.pulse⟩,
        fun p => ?_, hsum⟩
      · rw [hc, hg]
        exact fun c hmem => ⟨(hp c hmem).1, (hp c hmem).2, not_before_advance hlast (hb c hmem) hx (hp c hmem)⟩
      · simpa only [State.cueCount, State.allocation, ha, hc] using hcount p

/-- Every cue that the firing leaves lies beyond the generator position (R108). -/
theorem fireCues_beyond (s : State) : ∀ c ∈ s.fireCues.state.cues, s.fireCues.state.gen.position.before c.fire = true :=
  fun c hc => by rw [State.fireCues_gen]; exact (State.mem_fireCues_cues hc).2

theorem generate (hs : s.PoolInv) : s.generate.PoolInv := by
  obtain ⟨-, e⟩ | ⟨-, ⟨-, e⟩ | ⟨-, e⟩⟩ := s.generate_cases <;> rw [e]
  · exact reachStop hs
  · exact stopStep hs
  · exact makeRecord (fireCues hs) (fireCues_beyond s) _

theorem launch (hs : s.PoolInv) : s.launch.PoolInv := by
  obtain ⟨-, e⟩ | ⟨-, ⟨-, e⟩ | ⟨-, e⟩⟩ := s.launch_cases <;> rw [e]
  · exact reachStop hs
  · exact stopStep hs
  · obtain ⟨hpos, -⟩ := setLaunchN_spec s.fireCues.state
    have hc : s.fireCues.state.setLaunchN.cues = s.fireCues.state.cues := setLaunchN_touches _ .cues (by simp)
    refine poolInv_dependsOn.keep (enter_touches _ _) (makeRecord ?_ ?_ _)
    · exact (fireCues hs).of_sublist (by rw [hc]) hpos (setLaunchN_touches _ .allocations (by simp))
    · dsimp only
      rw [hpos, hc]
      exact fireCues_beyond s

theorem locate (hs : s.PoolInv) (bar : BitVec 16) (beat : Byte) : (locateBody bar beat s).1.PoolInv := by
  obtain e | ⟨-, e⟩ := locateBody_cases bar beat s <;> rw [e]
  · exact hs
  · refine hs.of_empty rfl ?_ (dropAllCues_touches _ .allocations (by simp))
    have hg : (State.dropAllCues { s with gen := { s.gen with position := (s.locatePosition bar beat).1 } }).gen
        = { s.gen with position := (s.locatePosition bar beat).1 } := dropAllCues_touches _ .gen (by simp)
    rw [hg]
    exact ⟨by simp [State.locatePosition, clampNat], by simp [State.locatePosition]⟩

theorem gridReset (hs : s.PoolInv) : (gridResetBody s).1.PoolInv := by
  obtain e | ⟨-, e⟩ := gridResetBody_cases s <;> rw [e]
  · exact hs
  · have ht := dropAllCues_touches { s with gen := { s.gen with position := ⟨1, 1, 0⟩, pulse := 0 } }
    refine hs.of_empty rfl ?_ (ht .allocations (by simp))
    have hg : (State.dropAllCues { s with gen := { s.gen with position := ⟨1, 1, 0⟩, pulse := 0 } }).gen
        = { s.gen with position := ⟨1, 1, 0⟩, pulse := 0 } := ht .gen (by simp)
    change (State.dropAllCues _).gen.position.InBar
    rw [hg]
    exact ⟨Nat.le_refl 1, Nat.zero_le 95⟩

theorem setAllocation (hs : s.PoolInv) (p : Port) (n : Byte) : (setAllocationBody p n s).1.PoolInv := by
  unfold setAllocationBody
  split
  · exact hs
  · next hlow =>
    split
    · exact hs
    · next hhigh =>
      obtain ⟨hid, hne, hord, hplace, hx, hcount, -⟩ := hs
      refine ⟨hid, hne, hord, hplace, hx, fun q => ?_, ?_⟩
      · rw [State.setAllocation_allocation]
        split
        · next hq => subst hq; exact Nat.not_lt.1 hlow
        · exact hcount q
      · rw [State.allocated_setAllocation]
        exact Nat.not_lt.1 hhigh

theorem reset {u : State} (h : EventDoes s u .reset) : u.PoolInv := by
  subst h
  simp [State.PoolInv, State.reset, Generator.reset, State.cueCount, State.allocated, Port.all, State.allocation]

end State.PoolInv

/-- Settles O55: a cue enters the pool at its place and in a free slot of a port with room, the firing of a step takes
every due cue away before the position advances, and the rest only leave the pool. -/
theorem stepsKeepThePoolInOrder : Obligations.StepsKeepThePoolInOrder := by
  refine step_keeps_of_dependsOn poolInv_dependsOn poolInv_dependsOn (fun _ hs => hs) (fun s hs _ _ => hs) ?_ ?_
  · intro i
    cases i with
    | closePort p =>
      intro s _ _ hs
      refine State.PoolInv.of_sublist hs ?_ (congrArg Generator.position (closePort_touches s p .gen (by simp) : _ = _))
        (closePort_touches s p .allocations (by simp))
      rw [closePort_cues]
      exact List.filter_sublist
    | locate p bar beat =>
      intro s _ _ hs
      obtain e | ⟨-, e⟩ := asLeader_cases p (locateBody bar beat) s <;> rw [e]
      · exact hs
      · exact State.PoolInv.locate hs bar beat
    | gridReset p =>
      intro s _ _ hs
      obtain e | ⟨-, e⟩ := asLeader_cases p gridResetBody s <;> rw [e]
      · exact hs
      · exact State.PoolInv.gridReset hs
    | setAllocation p n => exact fun s _ _ hs => State.PoolInv.setAllocation hs p n
    | scheduleCue p r =>
      intro s _ _ hs
      obtain e | ⟨c, t, policy, e, -, ho, hroom, hr, hplace, hid⟩ := scheduleCueBody_cases p r s <;> rw [e]
      · exact hs
      · obtain ⟨hx, hb⟩ := State.place_spec (State.PoolInv.inBar hs) hr hplace
        exact State.PoolInv.insert hs hx hb hid (by rwa [ho])
    | cancelCue p id tag =>
      intro s _ _ hs
      obtain e | e := cancelCueBody_cases p id tag s <;> rw [e]
      · exact hs
      · exact State.PoolInv.of_sublist hs List.filter_sublist rfl rfl
    | _ => exact ForBody.of_dependsOn poolInv_dependsOn fun _ hs => hs
  · intro i s t h hs
    cases i with
    | reset => exact State.PoolInv.reset h
    | launchStep => obtain ⟨-, rfl⟩ := h; exact State.PoolInv.launch hs
    | generatorStep => obtain ⟨-, rfl⟩ := h; exact State.PoolInv.generate hs
    | _ => exact poolInv_dependsOn.event h hs

end Sys2Proof.Machine

/-! PROOF. The grid's invariant (chapters 1, 4, 6): every operation of the tempo engine keeps its ranges and a glide
that does not overshoot, and every advance of the generator stays in the bar. -/

namespace Sys2Proof.Machine

/-! ### The tempo engine -/

/-- A division toward zero and back does not pass the dividend. -/
theorem tdiv_mul_toward_zero (d : Int) (n : Nat) :
    (0 ≤ d.tdiv n ∧ d.tdiv n * n ≤ d) ∨ (d.tdiv n ≤ 0 ∧ d ≤ d.tdiv n * n) := by
  have hn : (0 : Int) ≤ n := Int.natCast_nonneg n
  have hpos : ∀ e : Int, 0 ≤ e → 0 ≤ e.tdiv n ∧ e.tdiv n * n ≤ e := by
    intro e he
    have := Int.mul_tdiv_add_tmod e n
    have := Int.tmod_nonneg n he
    exact ⟨Int.tdiv_nonneg he hn, by rw [mul_comm]; omega⟩
  obtain h | h := Int.le_total 0 d
  · exact .inl (hpos d h)
  · obtain ⟨h1, h2⟩ := hpos (-d) (by omega)
    rw [Int.neg_tdiv] at h1 h2
    exact .inr ⟨by omega, by rw [neg_mul] at h2; omega⟩

section Engine

variable {e : Engine}

/-- The engine with another interval and glide, both lawful. -/
theorem Engine.Legal.withGlide (h : e.Legal) {i t n : Nat} {st : Int} (hi : IntervalLegal i) (ht : IntervalLegal t)
    (hn : n ≤ 6144)
    (hg : 0 < n → Engine.GlideLegal { e with interval := i, glideTarget := t, glideStep := st, glideCount := n }) :
    Engine.Legal { e with interval := i, glideTarget := t, glideStep := st, glideCount := n } := by
  obtain ⟨-, -, -, -, hslip, hm, hm', hp⟩ := h
  exact ⟨hi, ht, hn, hg, hslip, hm, hm', hp⟩

theorem Engine.Legal.withSlip (h : e.Legal) {g : Int} (hg : g.natAbs ≤ 98304000000) :
    Engine.Legal { e with slip := g } := by
  obtain ⟨hi, ht, hn, hglide, -, hrest⟩ := h
  exact ⟨hi, ht, hn, hglide, hg, hrest⟩

theorem Engine.Legal.startTempo (h : e.Legal) {c g : Nat} (hc : 2000 ≤ c ∧ c ≤ 30000) (hg : g ≤ 64) :
    (e.startTempo c g).Legal := by
  have hi := intervalOf_legal hc.1 hc.2
  unfold Engine.startTempo
  split
  · exact h.withGlide hi hi (by omega) (by omega)
  · exact h.withGlide h.1 hi (by omega) fun _ => tdiv_mul_toward_zero _ _

theorem Engine.startTempo_meter (c g : Nat) : (e.startTempo c g).meter = e.meter := by
  unfold Engine.startTempo
  split <;> rfl

/-- An addition to the slip is clamped to half a beat, the longest of which is 1.5 s (R13). -/
theorem Engine.Legal.addSlip (h : e.Legal) (g : Int) : (e.addSlip g).1.Legal := by
  have hle := e.addSlip_natAbs_le g
  have hi := h.1.2
  rw [e.addSlip_engine] at hle ⊢
  exact h.withSlip (by dsimp only [Engine.halfBeat] at hle ⊢; omega)

theorem Engine.Legal.setMeter (h : e.Legal) {m : Nat} (hm : 1 ≤ m ∧ m ≤ 16) :
    Engine.Legal { e with pendingMeter := some m } := by
  obtain ⟨hi, ht, hn, hglide, hslip, hlo, hhi, -⟩ := h
  exact ⟨hi, ht, hn, hglide, hslip, hlo, hhi, fun k hk => by cases hk; exact hm⟩

theorem Engine.Legal.applyMeter (h : e.Legal) : e.applyMeter.Legal := by
  unfold Engine.applyMeter
  split
  · next m hm =>
    obtain ⟨hi, ht, hn, hglide, hslip, -, -, hp⟩ := h
    exact ⟨hi, ht, hn, hglide, hslip, (hp m hm).1, (hp m hm).2, by simp⟩
  · exact h

theorem Engine.afterRecord_meter : e.afterRecord.meter = e.meter := by
  unfold Engine.afterRecord
  dsimp only
  (repeat' split) <;> rfl

/-- A step of a glide leaves an interval between the one before and the target, and a glide that does not
overshoot (R9). -/
theorem Engine.GlideLegal.step (hi : IntervalLegal e.interval) (ht : IntervalLegal e.glideTarget)
    (hg : e.GlideLegal) (hn : 1 < e.glideCount) :
    IntervalLegal ((e.interval : Int) + e.glideStep).toNat
      ∧ Engine.GlideLegal { e with
          interval := ((e.interval : Int) + e.glideStep).toNat, glideCount := e.glideCount - 1 } := by
  have hcount : ((e.glideCount - 1 : Nat) : Int) = (e.glideCount : Int) - 1 := by omega
  have hn' : (1 : Int) ≤ e.glideCount := by omega
  unfold IntervalLegal at hi ht ⊢
  obtain ⟨hs, hle⟩ | ⟨hs, hle⟩ := hg
  · have hstep : e.glideStep ≤ e.glideStep * e.glideCount := le_mul_of_one_le_right hs hn'
    refine ⟨by omega, .inl ⟨hs, ?_⟩⟩
    dsimp only
    rw [hcount, mul_sub, mul_one]
    omega
  · have hstep : e.glideStep * e.glideCount ≤ e.glideStep := mul_le_of_one_le_right hs hn'
    refine ⟨by omega, .inr ⟨hs, ?_⟩⟩
    dsimp only
    rw [hcount, mul_sub, mul_one]
    omega

/-- The slip portion takes the slip toward zero (R8). -/
theorem Engine.natAbs_sub_slipPortion : (e.slip - e.slipPortion).natAbs ≤ e.slip.natAbs := by
  have := e.slipPortion_eq
  omega

theorem Engine.Legal.afterRecord (h : e.Legal) : e.afterRecord.Legal := by
  have hslip : (e.slip - e.slipPortion).natAbs ≤ 98304000000 :=
    e.natAbs_sub_slipPortion.trans h.2.2.2.2.1
  have h' := h.withSlip hslip
  obtain ⟨hi, ht, hn, hglide, -⟩ := h
  unfold Engine.afterRecord
  dsimp only
  split
  · next hc =>
    obtain ⟨hi', hg'⟩ := (hglide (by omega)).step hi ht hc
    exact h'.withGlide hi' ht (by omega) fun _ => hg'
  · split
    · exact h'.withGlide ht ht (by omega) (by omega)
    · exact h'

theorem Engine.Legal.lockTempo (h : e.Legal) (m : Nat) : (e.lockTempo m).Legal := by
  obtain ⟨hlo, hhi, -⟩ := clampInt_spec (lo := (Config.intervalMin : Int)) (hi := (Config.intervalMax : Int))
    (v := (e.interval : Int) + ((m : Int) - (e.interval : Int)).tdiv 4) (by simp [Config.intervalMin, Config.intervalMax])
  have hi : IntervalLegal (clampInt (Config.intervalMin : Int) (Config.intervalMax : Int)
      ((e.interval : Int) + ((m : Int) - (e.interval : Int)).tdiv 4)).1.toNat := by
    simp only [Config.intervalMin, Config.intervalMax] at hlo hhi ⊢
    unfold IntervalLegal
    omega
  exact h.withGlide hi hi (by omega) (by omega)

theorem Engine.Legal.lockPhase (h : e.Legal) (q : List PulseRecord) (k : Nat) (t : Time) :
    (e.lockPhase q k t).Legal := by
  unfold Engine.lockPhase
  split
  · exact h.addSlip _
  · exact h

theorem Engine.lockPhase_meter (q : List PulseRecord) (k : Nat) (t : Time) :
    (e.lockPhase q k t).meter = e.meter := by
  unfold Engine.lockPhase
  split <;> rfl

theorem Engine.Legal.matchBid (h : e.Legal) (beat : Option BeatMark) {b : Bid}
    (hb : 2000 ≤ b.tempo ∧ b.tempo ≤ 30000 ∧ b.glide ≤ 64) : (e.matchBid beat b).1.Legal := by
  have hs := h.startTempo ⟨hb.1, hb.2.1⟩ hb.2.2
  unfold Engine.matchBid
  dsimp only
  split
  · exact hs
  · exact hs.addSlip _

theorem Engine.matchBid_meter (beat : Option BeatMark) (b : Bid) : (e.matchBid beat b).1.meter = e.meter := by
  unfold Engine.matchBid
  dsimp only
  split
  · exact Engine.startTempo_meter _ _
  · exact Engine.startTempo_meter _ _

end Engine

/-! ### The grid -/

/-- The grid's invariant but for the cues. -/
structure State.GridSound (s : State) : Prop where
  engine : s.engine.Legal
  position : s.gen.position.Legal s.engine.meter
  slot : ∀ b, s.arbiter.slot = some b → b.Legal

theorem gridInv_iff (s : State) : s.GridInv ↔ s.GridSound ∧ s.CuesLegal :=
  ⟨fun ⟨he, hx, hc, hb⟩ => ⟨⟨he, hx, hb⟩, hc⟩, fun ⟨⟨he, hx, hb⟩, hc⟩ => ⟨he, hx, hc, hb⟩⟩

theorem gridSound_dependsOn : DependsOn [.engine, .gen, .lead] State.GridSound := by
  refine ⟨fun s t h ⟨he, hx, hb⟩ => ?_⟩
  have heng : t.engine = s.engine := h .engine (by simp)
  have hgen : t.gen = s.gen := h .gen (by simp)
  have hlead : t.arbiter = { s.arbiter with silenceExpiry := t.arbiter.silenceExpiry } := h .lead (by simp)
  exact ⟨heng ▸ he, by rw [heng, hgen]; exact hx, by rw [hlead]; exact hb⟩

theorem Position.Legal.advance {m : Nat} {x : Position} (h : x.Legal m) (hm : 1 ≤ m) : (x.advance m).Legal m := by
  obtain ⟨hbar, hbar', hbeat, hbeat', hpulse⟩ := h
  unfold Position.advance barAfter Config.lastBar
  (repeat' split) <;> refine ⟨?_, ?_, ?_, ?_, ?_⟩ <;> dsimp only <;> omega

namespace State.GridSound

variable {s : State}

theorem withEngine (hs : s.GridSound) {e : Engine} (he : e.Legal) (hm : e.meter = s.engine.meter) :
    State.GridSound { s with engine := e } :=
  ⟨he, by rw [hm]; exact hs.position, hs.slot⟩

theorem clearSlip (hs : s.GridSound) : s.clearSlip.GridSound := hs.withEngine (hs.engine.withSlip (by simp)) rfl

theorem toStopped (hs : s.GridSound) : s.toStopped.GridSound := by
  refine gridSound_dependsOn.keep (enter_touches _ _) (clearSlip (s := { s with
    transport := { s.transport with launchTime := none, stopPoint := none, rLast := none }
    lastBeat := none }) ⟨hs.engine, hs.position, hs.slot⟩)

theorem setLeader (hs : s.GridSound) (l : Leader) : (s.setLeader l).GridSound :=
  ⟨hs.engine.withSlip (by simp), hs.position, hs.slot⟩

theorem emptySlot (hs : s.GridSound) : s.emptySlot.GridSound := ⟨hs.engine, hs.position, by simp [State.emptySlot]⟩

theorem stopSilence (hs : s.GridSound) : s.stopSilence.GridSound := gridSound_dependsOn.keep (stopSilence_touches s) hs

theorem freewheels (hs : s.GridSound) (r : FreewheelReason) : (s.freewheels r).GridSound :=
  gridSound_dependsOn.keep (postAll_touches _ _) (hs.setLeader _).stopSilence

theorem grantEngine (hs : s.GridSound) {b : Bid} (hb : b.Legal) (r : Route) : (s.grantEngine b r).1.GridSound := by
  unfold State.grantEngine
  split
  · exact hs
  · next hk => exact hs.withEngine (hs.engine.matchBid _ (hb.2 hk)) (Engine.matchBid_meter _ _)

theorem grant (hs : s.GridSound) {b : Bid} (hb : b.Legal) (r : Route) : (s.grant b r).GridSound := by
  have hled : (((s.setLeader (.port b.bidder)).emptySlot.stopSilence).restartSilence b.bidder).GridSound :=
    gridSound_dependsOn.keep (restartSilence_touches _ _) (hs.setLeader _).emptySlot.stopSilence
  exact gridSound_dependsOn.keep (post_touches _ _ _)
    (gridSound_dependsOn.keep (grantLost_touches _ _ _ _) (hled.grantEngine hb r))

theorem enterSlot (hs : s.GridSound) {b : Bid} (hb : b.Legal) (y : Port) : (s.enterSlot b y).GridSound :=
  gridSound_dependsOn.keep (post_touches _ _ _)
    ⟨hs.engine, hs.position, fun c hc => by cases hc; exact hb⟩

theorem changeTap (hs : s.GridSound) (t : Fin 4) (v : Tap) (c : TapCause) : (s.changeTap t v c).GridSound := by
  have hset : (s.setTap t v).GridSound := gridSound_dependsOn.keep (touches_taps s _) hs
  unfold State.changeTap
  dsimp only
  split
  · exact hset
  · have hpost := fun b => gridSound_dependsOn.keep (postAll_touches (s.setTap t v) b) hset
    split
    · exact (hpost _).freewheels _
    · exact hpost _

theorem lockEdge (hs : s.GridSound) (v : Tap) (t : Time) : (s.lockEdge v t).GridSound := by
  unfold State.lockEdge
  split
  · exact hs.withEngine ((hs.engine.lockTempo _).lockPhase _ _ _) (Engine.lockPhase_meter _ _ _)
  · exact hs

theorem silenceExpires (hs : s.GridSound) : s.silenceExpires.GridSound := by
  unfold State.silenceExpires
  split
  · next b hb => exact hs.grant (hs.slot b hb) _
  · split
    · exact gridSound_dependsOn.keep (postAll_touches _ _)
        (gridSound_dependsOn.keep (post_touches _ _ _) (hs.setLeader _).stopSilence)
    · exact hs.stopSilence

theorem waitExpires (hs : s.GridSound) {b : Bid} (hb : b.Legal) : (s.waitExpires b).GridSound := by
  unfold State.waitExpires
  split
  · exact hs.grant hb _
  · exact gridSound_dependsOn.keep (post_touches _ _ _) hs.emptySlot

/-- A bid's fields are brought to their limits (R58). -/
theorem makeBid_legal (s : State) (p : Port) (k : BidKind) (wait tempo : BitVec 16) (ref : Time) (glide : Byte) :
    (s.makeBid p k wait tempo ref glide).1.Legal := by
  have hw := (clampNat_spec (lo := 0) (hi := Config.waitMax) (v := wait.toNat) (Nat.zero_le _)).2.1
  cases k with
  | plain => exact ⟨hw, fun h => nomatch h⟩
  | matched =>
    obtain ⟨hlo, hhi, -⟩ := clampNat_spec (lo := Config.tempoMin) (hi := Config.tempoMax) (v := tempo.toNat)
      (by simp [Config.tempoMin, Config.tempoMax])
    have hg := (clampNat_spec (lo := 0) (hi := Config.glideBeatsMax) (v := glide.toNat) (Nat.zero_le _)).2.1
    exact ⟨hw, fun _ => ⟨hlo, hhi, hg⟩⟩

theorem placeBid (hs : s.GridSound) {b : Bid} (hb : b.Legal) (c : Bool) : (placeBid b c s).1.GridSound := by
  unfold Machine.placeBid
  split
  · split
    · exact hs
    · split
      · exact hs.enterSlot hb _
      · split
        · exact hs.enterSlot hb _
        · split
          · exact enterSlot (gridSound_dependsOn.keep (post_touches s _ _) hs) hb _
          · exact hs
  · exact hs.grant hb _
  · exact hs.grant hb _

theorem bidBody (hs : s.GridSound) (p : Port) (kind : Byte) (wait tempo : BitVec 16) (ref : Time) (glide : Byte) :
    (bidBody p kind wait tempo ref glide s).1.GridSound := by
  unfold Machine.bidBody
  split
  · exact hs
  · split
    · exact hs.placeBid (makeBid_legal s p _ wait tempo ref glide) _
    · exact hs

theorem reachStop (hs : s.GridSound) : s.reachStop.GridSound := by
  have hplayers : s.playersStop.GridSound := ⟨hs.engine, hs.position, hs.slot⟩
  unfold State.reachStop
  dsimp only
  split
  · exact gridSound_dependsOn.keep (enter_touches _ _) ⟨hs.engine, hs.position, hs.slot⟩
  · exact hplayers.toStopped

/-- The cues that fire change the tempo and the pending meter to values in range (R109). -/
theorem fireCues (hs : s.GridSound) (hc : s.CuesLegal) : s.fireCues.state.GridSound := by
  refine State.fireCues_keeps hs fun f c hmem hf => ?_
  have hlegal := hc c hmem
  have hf : (f.remove c).state.GridSound := ⟨hf.engine, hf.position, hf.slot⟩
  obtain e | ⟨i, row, tap, -, e⟩ | ⟨i, row, tap, -, -, -, e⟩ | ⟨v, g, ha, e⟩ | ⟨m, ha, e⟩ :=
    (f.remove c).act_cases c <;> rw [e]
  · exact hf
  · exact ⟨hf.engine, hf.position, hf.slot⟩
  · exact ⟨hf.engine, hf.position, hf.slot⟩
  · rw [ha] at hlegal
    exact hf.withEngine (hf.engine.startTempo ⟨hlegal.1, hlegal.2.1⟩ hlegal.2.2) (Engine.startTempo_meter _ _)
  · rw [ha] at hlegal
    exact hf.withEngine (hf.engine.setMeter hlegal) rfl

theorem stopStep (hs : s.GridSound) (hc : s.CuesLegal) : (stopStep s.fireCues).GridSound :=
  reachStop (gridSound_dependsOn.keep (Firing.beforeStop_touches _) (hs.fireCues hc))

/-- The position stays in the bar of the meter that comes into effect at its start (R19). -/
theorem makingEngine (hs : s.GridSound) :
    s.makingEngine.Legal ∧ s.gen.position.Legal s.makingEngine.meter := by
  unfold State.makingEngine
  split
  · next hbar =>
    have he := hs.engine.applyMeter
    obtain ⟨hb, hp⟩ := (Position.barStart_iff _).1 hbar
    obtain ⟨h1, h2, h3, -, h5⟩ := hs.position
    obtain ⟨-, -, -, -, -, hm, -⟩ := id he
    exact ⟨he, h1, h2, h3, by omega, h5⟩
  · exact ⟨hs.engine, hs.position⟩

theorem makeRecord {f : Firing} (hs : f.state.GridSound) (launch : Bool) : (makeRecord launch f).GridSound := by
  obtain ⟨he, hx⟩ := hs.makingEngine
  have hlead : (Machine.makeRecord launch f).arbiter
      = { f.state.arbiter with silenceExpiry := (Machine.makeRecord launch f).arbiter.silenceExpiry } :=
    makeRecord_touches launch f .lead (by simp)
  refine ⟨by rw [makeRecord_engine]; exact he.afterRecord, ?_, by rw [hlead]; exact hs.slot⟩
  rw [makeRecord_engine, makeRecord_gen, Engine.afterRecord_meter]
  obtain ⟨-, -, -, -, -, hm, -⟩ := he
  exact hx.advance hm

theorem setLaunchN (hs : s.GridSound) : s.setLaunchN.GridSound := by
  unfold State.setLaunchN
  split
  · exact ⟨hs.engine, hs.position, hs.slot⟩
  · exact hs

theorem generate (hs : s.GridSound) (hc : s.CuesLegal) : s.generate.GridSound := by
  obtain ⟨-, e⟩ | ⟨-, ⟨-, e⟩ | ⟨-, e⟩⟩ := s.generate_cases <;> rw [e]
  · exact hs.reachStop
  · exact hs.stopStep hc
  · exact (hs.fireCues hc).makeRecord _

theorem launch (hs : s.GridSound) (hc : s.CuesLegal) : s.launch.GridSound := by
  obtain ⟨-, e⟩ | ⟨-, ⟨-, e⟩ | ⟨-, e⟩⟩ := s.launch_cases <;> rw [e]
  · exact hs.reachStop
  · exact hs.stopStep hc
  · exact gridSound_dependsOn.keep (enter_touches _ _)
      (makeRecord (f := { s.fireCues with state := s.fireCues.state.setLaunchN }) (hs.fireCues hc).setLaunchN _)

/-- Dropping the cues keeps a grid whose generator stands at another position of its bar (R35, R36). -/
theorem relocate (hs : s.GridSound) {g : Generator} (hg : g.position.Legal s.engine.meter) :
    (State.dropAllCues { s with gen := g }).GridSound :=
  gridSound_dependsOn.keep (dropAllCues_touches _) ⟨hs.engine, hg, hs.slot⟩

theorem locate (hs : s.GridSound) (bar : BitVec 16) (beat : Byte) : (locateBody bar beat s).1.GridSound := by
  obtain e | ⟨-, e⟩ := locateBody_cases bar beat s <;> rw [e]
  · exact hs
  · obtain ⟨-, -, -, -, -, hm, -⟩ := hs.engine
    obtain ⟨hb, hb', -⟩ := clampNat_spec (lo := 1) (hi := Config.lastBar) (v := bar.toNat) (by simp [Config.lastBar])
    obtain ⟨hx, hx', -⟩ := clampNat_spec (lo := 1) (hi := s.engine.meter) (v := beat.toNat) hm
    exact hs.relocate ⟨hb, hb', hx, hx', Nat.zero_le _⟩

theorem gridReset (hs : s.GridSound) : (gridResetBody s).1.GridSound := by
  obtain e | ⟨-, e⟩ := gridResetBody_cases s <;> rw [e]
  · exact hs
  · obtain ⟨-, -, -, -, -, hm, -⟩ := hs.engine
    have h := hs.relocate (g := { s.gen with position := ⟨1, 1, 0⟩, pulse := 0 })
      ⟨Nat.le_refl 1, by simp, Nat.le_refl 1, hm, Nat.zero_le _⟩
    exact ⟨h.engine, h.position, h.slot⟩

theorem arbiterCloses (hs : s.GridSound) (p : Port) : (s.arbiterCloses p).GridSound := by
  unfold State.arbiterCloses
  split
  · split
    · next b hb => exact hs.grant (hs.slot b hb) _
    · exact hs.freewheels _
  · split
    · exact hs.emptySlot
    · exact hs

theorem closePort (hs : s.GridSound) (p : Port) : (s.closePort p).GridSound := by
  have hmark : (s.markClosed p).GridSound :=
    gridSound_dependsOn.keep (touches_setPort_profile s p _ rfl rfl) hs
  exact gridSound_dependsOn.keep (closeRest_touches _ p) (hmark.arbiterCloses p)

theorem reset {u : State} (h : EventDoes s u .reset) : u.GridSound := by
  subst h
  refine ⟨?_, ?_, ?_⟩
  · simp [State.reset, Engine.reset, Engine.Legal, IntervalLegal]
  · simp [State.reset, Engine.reset, Generator.reset, Position.Legal]
  · simp [State.reset, Arbiter.reset]

end State.GridSound

/-- What a body keeps, it keeps behind the check for leadership. -/
theorem asLeader_keeps {P : State → Prop} {s : State} {p : Port} {body : State → State × Answer} (hs : P s)
    (h : s.arbiter.leader = .port p → P (body s).1) : P (asLeader p body s).1 := by
  obtain e | ⟨hl, e⟩ := asLeader_cases p body s <;> rw [e]
  · exact hs
  · exact h hl

/-- A command's body keeps the grid. -/
theorem State.GridSound.body (i : Instr) :
    ForBody i fun p c b => ∀ s, ((s.port p).isOpen = true ∨ openExempt c = true) →
      s.rstLow = false → s.GridSound → (b s).1.GridSound := by
  cases i with
  | closePort p => exact fun s _ _ hs => hs.closePort p
  | setTempo p c g =>
    refine fun s _ _ hs => asLeader_keeps hs fun _ => ?_
    obtain ⟨hlo, hhi, -⟩ := clampNat_spec (lo := Config.tempoMin) (hi := Config.tempoMax) (v := c.toNat)
      (by simp [Config.tempoMin, Config.tempoMax])
    have hg := (clampNat_spec (lo := 0) (hi := Config.glideBeatsMax) (v := g.toNat) (Nat.zero_le _)).2.1
    exact hs.withEngine (hs.engine.startTempo ⟨hlo, hhi⟩ hg) (Engine.startTempo_meter _ _)
  | nudge p d =>
    refine fun s _ _ hs => asLeader_keeps hs fun _ => ?_
    rw [nudgeBody_state]
    split
    · exact hs
    · exact hs.withEngine (hs.engine.addSlip _) rfl
  | setMeter p m =>
    refine fun s _ _ hs => asLeader_keeps hs fun _ => ?_
    unfold setMeterBody
    split
    · next hm => exact hs.withEngine (hs.engine.setMeter hm) rfl
    · exact hs
  | stop p q =>
    refine fun s _ _ hs => asLeader_keeps hs fun _ => ?_
    obtain e | ⟨-, e⟩ | ⟨x, -, e⟩ := stopBody_cases q s <;> rw [e]
    · exact hs
    · exact hs.toStopped
    · obtain ⟨-, e⟩ | ⟨-, h⟩ := s.setStop_cases x
      · rw [e]; exact hs.reachStop
      · exact gridSound_dependsOn.keep h hs
  | locate p bar beat => exact fun s _ _ hs => asLeader_keeps hs fun _ => hs.locate bar beat
  | gridReset p => exact fun s _ _ hs => asLeader_keeps hs fun _ => hs.gridReset
  | bid p k w c r g => exact fun s _ _ hs => hs.bidBody p k w c r g
  | yieldLead p =>
    refine fun s _ _ hs => asLeader_keeps hs fun _ => ?_
    unfold yieldBody
    split
    · exact hs
    · next b hb => exact hs.grant (hs.slot b hb) _
  | release p =>
    refine fun s _ _ hs => asLeader_keeps hs fun _ => ?_
    unfold releaseBody
    dsimp only
    split
    · next b hb => exact hs.grant (hs.slot b hb) _
    · exact hs.freewheels _
  | refuse p =>
    refine fun s _ _ hs => asLeader_keeps hs fun _ => ?_
    unfold refuseBody
    split
    · exact hs
    · exact gridSound_dependsOn.keep (post_touches _ _ _) hs.emptySlot
  | withdraw p =>
    intro s _ _ hs
    unfold withdrawBody
    split
    · exact hs.emptySlot
    · exact hs
  | handToTap p tap =>
    refine fun s _ _ hs => asLeader_keeps hs fun _ => ?_
    unfold handToTapBody
    split
    · exact hs
    · split
      · exact hs
      · split
        · exact (hs.setLeader _).stopSilence
        · exact hs
  | setTap p tap k o =>
    intro s _ _ hs
    unfold setTapBody
    split
    · dsimp only
      split
      · exact gridSound_dependsOn.keep (touches_taps s _) hs
      · exact hs.changeTap _ _ _
    · exact hs
  | tapClear p tap =>
    intro s _ _ hs
    unfold tapClearBody
    split
    · exact hs
    · split
      · exact gridSound_dependsOn.keep (touches_taps s _) hs
      · exact hs.changeTap _ _ _
  | _ => exact ForBody.of_dependsOn gridSound_dependsOn fun _ hs => hs

/-- An event keeps the grid. -/
theorem State.GridSound.event {i : Instr} {s t : State} (h : EventDoes s t i) (hs : s.GridSound)
    (hc : s.CuesLegal) : t.GridSound := by
  cases i with
  | reset => exact State.GridSound.reset h
  | waitTimerExpiry => obtain ⟨b, hb, -, rfl⟩ := h; exact hs.waitExpires (hs.slot b hb)
  | silenceTimerExpiry => obtain ⟨-, rfl⟩ := h; exact hs.silenceExpires
  | tapEdge k =>
    obtain ⟨-, ⟨-, rfl⟩ | ⟨-, rfl⟩ | ⟨-, rfl⟩ | ⟨-, -, -, rfl⟩⟩ := h
    · exact gridSound_dependsOn.keep (touches_taps s _) hs
    · exact hs.changeTap _ _ _
    · exact hs.changeTap _ _ _
    · exact (hs.changeTap _ _ _).lockEdge _ _
  | tapSilenceDeadline k => obtain ⟨-, rfl⟩ := h; exact hs.changeTap _ _ _
  | launchStep => obtain ⟨-, rfl⟩ := h; exact hs.launch hc
  | generatorStep => obtain ⟨-, rfl⟩ := h; exact hs.generate hc
  | recordRetires =>
    obtain ⟨-, rfl⟩ := h
    unfold State.retire
    split
    · exact hs
    · split
      · exact toStopped (s := { s with queue := [] }) ⟨hs.engine, hs.position, hs.slot⟩
      · exact ⟨hs.engine, hs.position, hs.slot⟩
  | drainingEnd =>
    obtain ⟨-, rfl⟩ := h
    exact toStopped (s := { s with queue := [] }) ⟨hs.engine, hs.position, hs.slot⟩
  | _ => exact gridSound_dependsOn.event h hs

/-- The grid's invariant depends on the engine, the generator, the pool and the slot. -/
theorem gridInv_dependsOn : DependsOn [.engine, .gen, .lead, .cues] State.GridInv := by
  refine ⟨fun s t h hs => ?_⟩
  obtain ⟨hg, hc⟩ := (gridInv_iff s).1 hs
  exact (gridInv_iff t).2 ⟨gridSound_dependsOn.carry s t (fun b hb => h b (by simp at hb ⊢; tauto)) hg,
    cuesLegal_dependsOn.carry s t (fun b hb => h b (by simp at hb ⊢; tauto)) hc⟩

/-- Settles O52: the tempo engine's operations, the arbiter's and the generator's steps keep the grid, and every
tempo and meter enters a cue or a bid in its range. -/
theorem stepsKeepTheGridLegal : Obligations.StepsKeepTheGridLegal := by
  refine step_keeps_of_dependsOn gridInv_dependsOn gridInv_dependsOn (fun _ hs => hs) (fun s hs _ _ => hs)
    (fun i => ?_) fun i s t h hs => ?_
  · refine ForBody.intro fun p c b hb s ho hr hs => ?_
    obtain ⟨hg, hc⟩ := (gridInv_iff s).1 hs
    exact (gridInv_iff _).2 ⟨(State.GridSound.body i).elim hb s ho hr hg, (CuesLegal.body i).elim hb s ho hr hc⟩
  · obtain ⟨hg, hc⟩ := (gridInv_iff s).1 hs
    exact (gridInv_iff t).2 ⟨hg.event h hc, CuesLegal.event h hc⟩

end Sys2Proof.Machine

/-! PROOF. The transport and the horizon queue (chapters 2 and 3): the table of transport states, and the pulse
numbers along the queue. -/

namespace Sys2Proof.Machine

/-! ### What the operations leave of the transport and the queue -/

theorem Touches.transport {bs : List Block} {s t : State} (h : Touches bs s t) (hr : Block.run ∉ bs := by simp)
    (hh : Block.horizon ∉ bs := by simp) : t.transport = s.transport := by
  have hrun : t.transport = { s.transport with horizonMs := t.transport.horizonMs } := h .run hr
  have hhor : t.transport.horizonMs = s.transport.horizonMs := h .horizon hh
  rw [hrun, hhor]

theorem Transport.legal_iff {tr : Transport} {b : Bool} {x : Position} :
    tr.Legal b x ↔
      (tr.state = .stopped → b = true ∧ tr.launchTime = none ∧ tr.stopPoint = none ∧ tr.rLast = none)
      ∧ (tr.state = .armed → b = true ∧ tr.launchTime.isSome ∧ tr.stopPoint = none ∧ tr.rLast = none)
      ∧ (tr.state = .running → tr.launchTime.isSome ∧ tr.stopPoint = none ∧ tr.rLast = none)
      ∧ (tr.state = .stopPending → tr.launchTime.isSome ∧ tr.stopPoint.isSome ∧ tr.rLast = none)
      ∧ (tr.state = .draining → tr.launchTime.isSome ∧ tr.stopPoint = some x ∧ tr.rLast.isSome) := by
  unfold Transport.Legal
  split <;> simp_all

theorem Transport.Legal.launchTime_isSome {tr : Transport} {b : Bool} {x : Position} (h : tr.Legal b x)
    (hs : tr.state ≠ .stopped) : tr.launchTime.isSome = true := by
  obtain ⟨-, ha, hr, hp, hd⟩ := Transport.legal_iff.1 h
  cases hst : tr.state with
  | stopped => exact absurd hst hs
  | armed => exact (ha hst).2.1
  | running => exact (hr hst).1
  | stopPending => exact (hp hst).1
  | draining => exact (hd hst).1

/-- The marking of the newest record changes markers alone. -/
theorem markNewest_map {α : Type} {f : PulseRecord → α} (hf : ∀ r m, f { r with markers := m } = f r)
    (q : List PulseRecord) : (markNewest q).map f = q.map f := by
  obtain rfl | ⟨q, r, rfl⟩ := List.eq_nil_or_concat q
  · rfl
  · rw [List.concat_eq_append, markNewest_concat]
    simp [hf]

/-- The marking of a record as sounded changes its flag alone. -/
theorem markSounded_map {α : Type} {f : PulseRecord → α} (hf : ∀ r b, f { r with sounded := b } = f r)
    (q : List PulseRecord) : (markSounded q).map f = q.map f := by
  induction q with
  | nil => rfl
  | cons r q ih =>
    rw [markSounded]
    split
    · rw [List.map_cons, ih, List.map_cons]
    · rw [List.map_cons, hf, List.map_cons]

theorem State.toStopped_transport (s : State) :
    s.toStopped.transport = ⟨.stopped, s.transport.horizonMs, none, none, none⟩ := by
  simp [State.toStopped, State.enter, State.clearSlip]

theorem State.toStopped_lastBeat (s : State) : s.toStopped.lastBeat = none := by
  simp [State.toStopped, State.enter, State.clearSlip]

theorem State.enter_transport (s : State) (st : TransportState) :
    (s.enter st).transport = { s.transport with state := st } := by
  simp [State.enter]

theorem State.reachStop_queue (s : State) : s.reachStop.queue = markNewest s.queue := by
  unfold State.reachStop
  dsimp only
  split
  · exact enter_touches _ .draining .queue (by simp)
  · next hn =>
    have hq : (s.playersStop.toStopped).queue = s.queue := toStopped_touches s.playersStop .queue (by simp)
    have hempty : markNewest s.queue = [] := List.getLast?_eq_none_iff.1 hn
    rw [hq, hempty]
    have := congrArg List.length (markNewest_map (f := PulseRecord.pulse) (fun _ _ => rfl) s.queue)
    simpa [hempty, eq_comm] using this

/-- With an empty queue a stop point that is reached stops the transport (R33). -/
theorem State.reachStop_of_empty {s : State} (h : s.queue = []) : s.reachStop = s.playersStop.toStopped := by
  have hq : s.playersStop.queue = [] := h
  simp [State.reachStop, hq, markNewest]

/-- With a record in the queue a stop point that is reached begins DRAINING (R33). -/
theorem State.reachStop_transport_of_record {s : State} {q : List PulseRecord} {r : PulseRecord}
    (h : s.queue = q ++ [r]) :
    s.reachStop.transport
      = { s.transport with state := .draining, stopPoint := some s.gen.position, rLast := some r.refTime } := by
  have hq : (markNewest s.playersStop.queue).getLast?
      = some { r with markers := { r.markers with last := true } } := by
    change (markNewest s.queue).getLast? = _
    rw [h, markNewest_concat]
    simp
  unfold State.reachStop
  dsimp only
  split
  · next hr =>
    rw [hq] at hr
    cases hr
    rw [State.enter_transport]
    rfl
  · next hr => rw [hq] at hr; cases hr

theorem State.reachStop_gen (s : State) : s.reachStop.gen = s.gen := reachStop_touches s .gen (by simp)

theorem State.fireCues_transport (s : State) : s.fireCues.state.transport = s.transport :=
  (fireCues_touches s).transport

theorem State.fireCues_queue (s : State) : s.fireCues.state.queue = s.queue := fireCues_touches s .queue (by simp)

theorem makeRecord_transport (launch : Bool) (f : Firing) : (makeRecord launch f).transport = f.state.transport :=
  (makeRecord_touches launch f).transport

/-! ### The transport's invariant -/

/-- The invariant of the transport and the queue's pulse numbers. -/
structure State.RunSound (s : State) : Prop where
  legal : s.transport.Legal s.queue.isEmpty s.gen.position
  horizon : s.transport.horizonMs ≤ 250
  lastBeat : s.transport.state = .stopped ∨ s.transport.state = .armed → s.lastBeat = none
  rise : (s.queue.map PulseRecord.pulse).IsChain fun n n' => n' = n + 1
  next : s.making = true → ∀ n, (s.queue.map PulseRecord.pulse).getLast? = some n → s.gen.pulse = n + 1

theorem runInv_iff (s : State) : s.RunInv ↔ s.RunSound := by
  have hnext : (∀ r, s.queue.getLast? = some r → s.gen.pulse = r.pulse + 1)
      ↔ ∀ n, (s.queue.map PulseRecord.pulse).getLast? = some n → s.gen.pulse = n + 1 := by
    simp only [List.getLast?_map, Option.map_eq_some_iff]
    exact ⟨fun h n ⟨r, hr, hn⟩ => hn ▸ h r hr, fun h r hr => h _ ⟨r, hr, rfl⟩⟩
  have hrise : PulsesRise s.queue ↔ (s.queue.map PulseRecord.pulse).IsChain fun n n' => n' = n + 1 := by
    rw [List.isChain_map, PulsesRise]
  exact ⟨fun ⟨hl, hh, hb, hr, hn⟩ => ⟨hl, hh, hb, hrise.1 hr, fun hm => hnext.1 (hn hm)⟩,
    fun ⟨hl, hh, hb, hr, hn⟩ => ⟨hl, hh, hb, hrise.2 hr, fun hm => hnext.2 (hn hm)⟩⟩

/-- Records are made in RUNNING and STOP_PENDING (section 2.1). -/
theorem State.making_iff (s : State) :
    s.making = true ↔ s.transport.state = .running ∨ s.transport.state = .stopPending := by
  simp [State.making]

theorem State.making_congr {s t : State} (h : t.transport.state = s.transport.state) : t.making = s.making := by
  simp only [State.making, h]

theorem runSound_dependsOn : DependsOn [.horizon, .run, .gen, .queue, .lastBeat] State.RunSound := by
  refine ⟨fun s t h ⟨hl, hh, hb, hr, hn⟩ => ?_⟩
  have htr : t.transport = s.transport := by
    have hrun : t.transport = { s.transport with horizonMs := t.transport.horizonMs } := h .run (by simp)
    have hhor : t.transport.horizonMs = s.transport.horizonMs := h .horizon (by simp)
    rw [hrun, hhor]
  have hg : t.gen = s.gen := h .gen (by simp)
  have hq : t.queue = s.queue := h .queue (by simp)
  have hlb : t.lastBeat = s.lastBeat := h .lastBeat (by simp)
  have hm : t.making = s.making := State.making_congr (by rw [htr])
  exact ⟨by rw [htr, hg, hq]; exact hl, by rw [htr]; exact hh, by rw [htr, hlb]; exact hb, by rw [hq]; exact hr,
    by rw [hm, hq, hg]; exact hn⟩

namespace State.RunSound

variable {s : State}

/-- The queue is empty in STOPPED and ARMED (section 2.1). -/
theorem queue_empty (hs : s.RunSound) (h : s.transport.state = .stopped ∨ s.transport.state = .armed) :
    s.queue = [] := by
  obtain ⟨hst, ha, -⟩ := Transport.legal_iff.1 hs.legal
  exact h.elim (fun h => List.isEmpty_iff.1 (hst h).1) fun h => List.isEmpty_iff.1 (ha h).1

/-- The transport's items change with the queue and the generator as they stand. -/
theorem withTransport (hs : s.RunSound) {tr : Transport} (hl : tr.Legal s.queue.isEmpty s.gen.position)
    (hh : tr.horizonMs ≤ 250) (hb : tr.state = .stopped ∨ tr.state = .armed → s.lastBeat = none)
    (hm : tr.state = .running ∨ tr.state = .stopPending → s.making = true) :
    State.RunSound { s with transport := tr } :=
  ⟨hl, hh, hb, hs.rise, fun h => hs.next (hm ((State.making_iff _).1 h))⟩

theorem enter (hs : State.RunSound { s with transport := { s.transport with state := st } }) :
    (s.enter st).RunSound :=
  runSound_dependsOn.keep (postAll_touches _ _) hs

/-- The transport stops with an empty queue. -/
theorem toStopped (hh : s.transport.horizonMs ≤ 250) (hq : s.queue = []) : s.toStopped.RunSound := by
  have htr := s.toStopped_transport
  have hq' : s.toStopped.queue = [] := Eq.trans (toStopped_touches s .queue (by simp) : _ = _) hq
  refine ⟨?_, by rw [htr]; exact hh, fun _ => s.toStopped_lastBeat, by rw [hq']; simp, by rw [hq']; simp⟩
  rw [htr, hq']
  exact ⟨rfl, rfl, rfl, rfl⟩

/-- A stop point is reached from a state in which a launch time stands. -/
theorem reachStop (hs : s.RunSound) (hl : s.transport.state ≠ .stopped) : s.reachStop.RunSound := by
  have htime := hs.legal.launchTime_isSome hl
  obtain hq | ⟨q, r, hq⟩ := List.eq_nil_or_concat s.queue
  · rw [State.reachStop_of_empty hq]
    exact toStopped (s := s.playersStop) hs.horizon hq
  · rw [List.concat_eq_append] at hq
    have htr := State.reachStop_transport_of_record hq
    have hp := markNewest_map (f := PulseRecord.pulse) (fun _ _ => rfl) s.queue
    refine ⟨?_, by rw [htr]; exact hs.horizon, by simp [htr], ?_, by simp [State.making, htr]⟩
    · rw [htr, State.reachStop_gen]
      exact ⟨htime, rfl, rfl⟩
    · rw [State.reachStop_queue, hp]
      exact hs.rise

theorem setStop (hs : s.RunSound) (hr : s.transport.state = .running ∨ s.transport.state = .stopPending)
    (x : Position) : (s.setStop x).RunSound := by
  have hne : s.transport.state ≠ .stopped := by obtain h | h := hr <;> simp [h]
  obtain ⟨-, -, hrun, hpend, -⟩ := Transport.legal_iff.1 hs.legal
  have hm := (State.making_iff s).2 hr
  have hlegal : s.transport.launchTime.isSome = true ∧ s.transport.rLast = none :=
    hr.elim (fun h => ⟨(hrun h).1, (hrun h).2.2⟩) fun h => ⟨(hpend h).1, (hpend h).2.2⟩
  have hset : State.RunSound { s with transport := { s.transport with state := .stopPending, stopPoint := some x } } :=
    hs.withTransport ⟨hlegal.1, rfl, hlegal.2⟩ hs.horizon (by simp) fun _ => hm
  unfold State.setStop
  split
  · exact hs.reachStop hne
  · dsimp only
    split
    · exact enter hset
    · next hnr =>
      have hst : s.transport.state = .stopPending := hr.resolve_left hnr
      have e : ({ s.transport with state := .stopPending, stopPoint := some x } : Transport)
          = { s.transport with stopPoint := some x } := by rw [← hst]
      rwa [e] at hset

theorem start (hs : s.RunSound) (t : Time) : (startBody t s).1.RunSound := by
  obtain ⟨hstop, harm, -, hpend, -⟩ := Transport.legal_iff.1 hs.legal
  unfold startBody
  split
  · next h =>
    obtain ⟨hq, -, hp, hl⟩ := hstop h
    refine enter (s := s.withLaunch _) (hs.withTransport ⟨hq, rfl, hp, hl⟩ hs.horizon ?_ (by simp))
    exact fun _ => hs.lastBeat (.inl h)
  · next h =>
    obtain ⟨hq, -, hp, hl⟩ := harm h
    refine hs.withTransport ?_ hs.horizon (fun _ => hs.lastBeat (.inr h)) (by simp [h])
    exact Transport.legal_iff.2 (by simp [h, hq, hp, hl])
  · exact hs
  · next h =>
    obtain ⟨hl, -, hr⟩ := hpend h
    exact enter (hs.withTransport ⟨hl, rfl, hr⟩ hs.horizon (by simp) fun _ => (State.making_iff s).2 (.inr h))
  · exact hs

theorem stop (hs : s.RunSound) (q : Byte) : (stopBody q s).1.RunSound := by
  obtain e | ⟨h, e⟩ | ⟨x, h, e⟩ := stopBody_cases q s <;> rw [e]
  · exact hs
  · exact toStopped hs.horizon (hs.queue_empty (.inr h))
  · exact hs.setStop h x

theorem setHorizon (hs : s.RunSound) (ms : Byte) : (setHorizonBody ms s).1.RunSound := by
  unfold setHorizonBody
  split
  · next h =>
    obtain ⟨hstop, -⟩ := Transport.legal_iff.1 hs.legal
    obtain ⟨-, hle, -⟩ := clampNat_spec (lo := 0) (hi := Config.horizonMax) (v := ms.toNat) (Nat.zero_le _)
    have hset : State.RunSound { s with transport := { s.transport with
        horizonMs := (clampNat 0 Config.horizonMax ms.toNat).1 } } :=
      hs.withTransport (Transport.legal_iff.2 (by simp [h, hstop h])) hle hs.lastBeat (by simp [h])
    exact runSound_dependsOn.keep (touches_lanes _ _) hset
  · exact hs

/-- With the transport STOPPED the generator can stand anywhere (R35, R36). -/
theorem relocate (hs : s.RunSound) (h : s.transport.state = .stopped) (g : Generator) :
    (State.dropAllCues { s with gen := g }).RunSound := by
  refine runSound_dependsOn.keep (dropAllCues_touches _) ⟨?_, hs.horizon, hs.lastBeat, hs.rise, ?_⟩
  · obtain ⟨hstop, -⟩ := Transport.legal_iff.1 hs.legal
    exact Transport.legal_iff.2 (by simp [h, hstop h])
  · simp [State.making, h]

theorem locate (hs : s.RunSound) (bar : BitVec 16) (beat : Byte) : (locateBody bar beat s).1.RunSound := by
  obtain e | ⟨h, e⟩ := locateBody_cases bar beat s <;> rw [e]
  · exact hs
  · exact hs.relocate h _

theorem gridReset (hs : s.RunSound) : (gridResetBody s).1.RunSound := by
  obtain e | ⟨h, e⟩ := gridResetBody_cases s <;> rw [e]
  · exact hs
  · exact runSound_dependsOn.keep (touches_players _ _) (hs.relocate h _)

/-- The queue takes a record of the next pulse number (R48). -/
theorem rise_append (hs : s.RunSound) {r : PulseRecord} (hr : r.pulse = s.gen.pulse)
    (h : s.making = true ∨ s.queue = []) :
    ((s.queue ++ [r]).map PulseRecord.pulse).IsChain fun n n' => n' = n + 1 := by
  rw [List.map_append, List.isChain_append]
  refine ⟨hs.rise, by simp, fun n hn n' hn' => ?_⟩
  simp only [List.map_cons, List.map_nil, List.head?_cons, Option.mem_some_iff] at hn'
  obtain hm | hq := h
  · rw [← hn', hr, hs.next hm n hn]
  · simp [hq] at hn

theorem makeRecord {f : Firing} (hs : f.state.RunSound) (hm : f.state.making = true) (launch : Bool) :
    (makeRecord launch f).RunSound := by
  obtain ⟨r, hq, hr, -⟩ := makeRecord_queue launch f
  have htr := makeRecord_transport launch f
  have hrun := (State.making_iff _).1 hm
  obtain ⟨-, -, hl, hl', -⟩ := Transport.legal_iff.1 hs.legal
  refine ⟨?_, by rw [htr]; exact hs.horizon, ?_, by rw [hq]; exact hs.rise_append hr (.inl hm), ?_⟩
  · rw [htr, Transport.legal_iff]
    obtain h | h := hrun <;> simp [h, hl, hl']
  · rw [htr]
    obtain h | h := hrun <;> simp [h]
  · intro _ n hn
    rw [hq] at hn
    simp only [List.map_append, List.map_cons, List.map_nil, List.getLast?_append, List.getLast?_singleton,
      Option.some_or, Option.some.injEq] at hn
    rw [makeRecord_gen, ← hn, hr]

/-- The launch record comes into an empty queue, and the transport becomes RUNNING (R28). -/
theorem launchRecord {f : Firing} (hs : f.state.RunSound) (ha : f.state.transport.state = .armed) :
    ((Machine.makeRecord true f).enter .running).RunSound := by
  obtain ⟨r, hq, hr, -⟩ := makeRecord_queue true f
  have hempty := hs.queue_empty (.inr ha)
  have htr := makeRecord_transport true f
  obtain ⟨-, hl, -⟩ := Transport.legal_iff.1 hs.legal
  obtain ⟨-, htime, hp, hlast⟩ := hl ha
  refine enter ⟨?_, by rw [htr]; exact hs.horizon, by simp, by rw [hq]; exact hs.rise_append hr (.inr hempty), ?_⟩
  · rw [htr]
    exact ⟨htime, hp, hlast⟩
  · intro _ n hn
    dsimp only at hn ⊢
    rw [hq] at hn
    simp only [List.map_append, List.map_cons, List.map_nil, List.getLast?_append, List.getLast?_singleton,
      Option.some_or, Option.some.injEq] at hn
    rw [makeRecord_gen, ← hn, hr]

theorem fireCues (hs : s.RunSound) : s.fireCues.state.RunSound := runSound_dependsOn.keep (fireCues_touches s) hs

theorem setLaunchN (hs : s.RunSound) : s.setLaunchN.RunSound := by
  unfold State.setLaunchN
  split
  · exact ⟨hs.legal, hs.horizon, hs.lastBeat, hs.rise, hs.next⟩
  · exact hs

theorem stopStep (hs : s.RunSound) (hne : s.transport.state ≠ .stopped) : (stopStep s.fireCues).RunSound := by
  have htr : s.fireCues.beforeStop.transport = s.transport := by
    rw [(Firing.beforeStop_touches _).transport, State.fireCues_transport]
  rw [stopStep_eq]
  exact reachStop (runSound_dependsOn.keep (Firing.beforeStop_touches _) hs.fireCues) (by rwa [htr])

theorem generate (hs : s.RunSound) (hd : s.generatorDue = true) : s.generate.RunSound := by
  have hm : s.making = true := (Bool.and_eq_true_iff.1 hd).1
  have hne : s.transport.state ≠ .stopped := by obtain h | h := (State.making_iff s).1 hm <;> simp [h]
  obtain ⟨-, e⟩ | ⟨-, ⟨-, e⟩ | ⟨-, e⟩⟩ := s.generate_cases <;> rw [e]
  · exact hs.reachStop hne
  · exact hs.stopStep hne
  · exact hs.fireCues.makeRecord ((State.making_congr (by rw [State.fireCues_transport])).trans hm) _

theorem launch (hs : s.RunSound) (hd : s.launchDue = true) : s.launch.RunSound := by
  have ha : s.transport.state = .armed := of_decide_eq_true (Bool.and_eq_true_iff.1 hd).1
  have hne : s.transport.state ≠ .stopped := by simp [ha]
  obtain ⟨-, e⟩ | ⟨-, ⟨-, e⟩ | ⟨-, e⟩⟩ := s.launch_cases <;> rw [e]
  · exact hs.reachStop hne
  · exact hs.stopStep hne
  · refine launchRecord hs.fireCues.setLaunchN ?_
    dsimp only
    rw [(setLaunchN_touches _).transport, State.fireCues_transport, ha]

theorem drained (hs : s.RunSound) : s.drained.RunSound := toStopped (s := { s with queue := [] }) hs.horizon rfl

theorem retire (hs : s.RunSound) : s.retire.RunSound := by
  cases hq : s.queue with
  | nil => simpa [State.retire, hq] using hs
  | cons r q =>
    rw [State.retire_cons hq]
    split
    · exact hs.drained
    · obtain ⟨hl, hl', hrest⟩ := Transport.legal_iff.1 hs.legal
      have hr := hs.rise
      have hn := hs.next
      rw [hq] at hr hn
      rw [hq] at hl hl'
      refine ⟨Transport.legal_iff.2 ⟨fun h => (nomatch (hl h).1), fun h => (nomatch (hl' h).1), hrest⟩, hs.horizon,
        hs.lastBeat, hr.tail, fun hm n h => hn hm n ?_⟩
      simp only [List.map_cons, List.getLast?_cons, h, Option.getD_some]

theorem sound (hs : s.RunSound) (r : PulseRecord) : (s.sound r).RunSound := by
  have hp := markSounded_map (f := PulseRecord.pulse) (fun _ _ => rfl) s.queue
  have hempty : (markSounded s.queue).isEmpty = s.queue.isEmpty := by
    have := congrArg List.isEmpty hp
    simpa using this
  rw [State.sound_frame]
  exact ⟨by rw [hempty]; exact hs.legal, hs.horizon, hs.lastBeat, by rw [hp]; exact hs.rise,
    by rw [hp]; exact hs.next⟩

theorem reset {u : State} (h : EventDoes s u .reset) : u.RunSound := by
  subst h
  refine ⟨⟨rfl, rfl, rfl, rfl⟩, ?_, fun _ => rfl, ?_, ?_⟩ <;> simp [State.reset, Transport.reset]

end State.RunSound

/-- A command's body keeps the transport's table. -/
theorem State.RunSound.body (i : Instr) :
    ForBody i fun p c b => ∀ s, ((s.port p).isOpen = true ∨ openExempt c = true) →
      s.rstLow = false → s.RunSound → (b s).1.RunSound := by
  cases i with
  | start p t => exact fun s _ _ hs => asLeader_keeps hs fun _ => hs.start t
  | stop p q => exact fun s _ _ hs => asLeader_keeps hs fun _ => hs.stop q
  | locate p bar beat => exact fun s _ _ hs => asLeader_keeps hs fun _ => hs.locate bar beat
  | gridReset p => exact fun s _ _ hs => asLeader_keeps hs fun _ => hs.gridReset
  | setHorizon p ms => exact fun s _ _ hs => hs.setHorizon ms
  | _ => exact ForBody.of_dependsOn runSound_dependsOn fun _ hs => hs

/-- An event keeps the transport's table. -/
theorem State.RunSound.event {i : Instr} {s t : State} (h : EventDoes s t i) (hs : s.RunSound) : t.RunSound := by
  cases i with
  | reset => exact State.RunSound.reset h
  | launchStep => obtain ⟨hd, rfl⟩ := h; exact hs.launch hd
  | generatorStep => obtain ⟨hd, rfl⟩ := h; exact hs.generate hd
  | recordSounds => obtain ⟨r, -, rfl⟩ := h; exact hs.sound r
  | recordRetires => obtain ⟨-, rfl⟩ := h; exact hs.retire
  | drainingEnd => obtain ⟨-, rfl⟩ := h; exact hs.drained
  | _ => exact runSound_dependsOn.event h hs

/-- Every step keeps the transport's table and the pulse numbers along the queue. -/
theorem step_runInv (s t : State) (hs : s.RunInv) (h : step s = .next t) : t.RunInv := by
  rw [runInv_iff] at hs ⊢
  exact step_keeps_of_dependsOn runSound_dependsOn runSound_dependsOn (fun _ hs => hs)
    (fun s hs _ _ => ⟨hs.legal, hs.horizon, hs.lastBeat, hs.rise, hs.next⟩) State.RunSound.body (fun i s t h hs => hs.event h) (by simp) s t hs h

end Sys2Proof.Machine

/-! PROOF. The instants along the horizon queue (chapters 1 to 3): while records are made the next one lies H ahead,
and each record stands from H before its reference time to 250,001 µs after it. -/

namespace Sys2Proof.Machine

/-! ### Times -/

theorem toNat_later {t : Time} {us : Nat} (h : t.toNat + us < 2 ^ 64) : (later t us).toNat = t.toNat + us := by
  unfold later
  rw [BitVec.toNat_add, BitVec.toNat_ofNat]
  omega

theorem toNat_earlier {t : Time} {us : Nat} (h : us ≤ t.toNat) : (earlier t us).toNat = t.toNat - us := by
  have ht := t.isLt
  unfold earlier
  rw [BitVec.toNat_sub, BitVec.toNat_ofNat]
  omega

theorem toNat_grainsToTime (n : GrainTime) : (grainsToTime n).toNat = n.toNat / 65536 := by
  have hn := n.isLt
  unfold grainsToTime
  rw [BitVec.toNat_ofNat]
  omega

theorem toNat_timeToGrains (t : Time) : (timeToGrains t).toNat = t.toNat * 65536 := by
  have ht := t.isLt
  unfold timeToGrains
  rw [BitVec.toNat_ofNat]
  omega

theorem toNat_grains_add {n : GrainTime} {d : Int} (hd : 0 ≤ d) (h : (n.toNat : Int) + d < 2 ^ 80) :
    ((n + BitVec.ofInt 80 d).toNat : Int) = n.toNat + d := by
  rw [BitVec.toNat_add, BitVec.toNat_ofInt]
  omega

/-- A step lasts at most the longest interval and its thirty-second (R8). -/
theorem Engine.stepLength_le {e : Engine} (h : IntervalLegal e.interval) :
    (e.interval : Int) + e.slipPortion ≤ 2112000000 := by
  obtain ⟨-, hhi⟩ := h
  have hp : e.slipPortion ≤ ((e.interval / 32 : Nat) : Int) := (clampInt_spec (by omega)).2.1
  omega

/-- A launch time that START takes lies H to 60 s ahead (R26). -/
theorem State.launchFor_range (s : State) (hh : s.horizonUs ≤ 250000)
    (hnow : s.houseTime.toNat < 2 ^ 63) (t : Time) :
    s.houseTime.toNat + s.horizonUs ≤ (s.launchFor t).1.toNat
      ∧ (s.launchFor t).1.toNat ≤ s.houseTime.toNat + 60000000 := by
  have hsoon : (later s.houseTime s.horizonUs).toNat = s.houseTime.toNat + s.horizonUs := toNat_later (by omega)
  have hlate : (later s.houseTime 60000000).toNat = s.houseTime.toNat + 60000000 := toNat_later (by omega)
  unfold State.launchFor Config.launchSpan
  dsimp only
  split
  · rw [hsoon]; omega
  · split
    · rw [hsoon]; omega
    · split
      · rw [hlate]; omega
      · dsimp only; omega

/-! ### The queue's invariant -/

/-- The reference times along the queue. -/
def State.refs (s : State) : List Nat := s.queue.map fun r => r.refTime.toNat

/-- The floor in µs of the time of the next record (R29). -/
def State.nextUs (s : State) : Nat := s.gen.n.toNat / 65536

/-- The invariant of the instants along the queue. -/
structure State.QueueSound (s : State) : Prop where
  held : s.rstLow = true → s.transport.state = .stopped
  launch : ∀ t, s.transport.state = .armed → s.transport.launchTime = some t →
    s.houseTime.toNat + s.horizonUs ≤ t.toNat ∧ t.toNat ≤ s.houseTime.toNat + 60000000
  next : s.making = true → s.houseTime.toNat + s.horizonUs ≤ s.nextUs
    ∧ s.nextUs ≤ s.houseTime.toNat + s.horizonUs + 32228
  stands : ∀ n ∈ s.refs, s.houseTime.toNat ≤ n + 250001 ∧ n ≤ s.houseTime.toNat + s.horizonUs
  rise : s.refs.IsChain fun n n' => n + 2018 ≤ n'
  last : s.making = true → ∀ n, s.refs.getLast? = some n → n + 2018 ≤ s.nextUs

theorem queueInv_iff (s : State) : s.QueueInv ↔ s.QueueSound := by
  have hstands : (∀ r ∈ s.queue, s.houseTime.toNat ≤ r.refTime.toNat + 250001
        ∧ r.refTime.toNat ≤ s.houseTime.toNat + s.horizonUs)
      ↔ ∀ n ∈ s.refs, s.houseTime.toNat ≤ n + 250001 ∧ n ≤ s.houseTime.toNat + s.horizonUs := by
    simp [State.refs]
  have hrise : s.queue.IsChain (fun r r' => r.refTime.toNat + 2018 ≤ r'.refTime.toNat)
      ↔ s.refs.IsChain fun n n' => n + 2018 ≤ n' := by
    rw [State.refs, List.isChain_map]
  have hlast : (∀ r, s.queue.getLast? = some r → r.refTime.toNat + 2018 ≤ s.nextUs)
      ↔ ∀ n, s.refs.getLast? = some n → n + 2018 ≤ s.nextUs := by
    simp only [State.refs, List.getLast?_map, Option.map_eq_some_iff]
    exact ⟨fun h n ⟨r, hr, hn⟩ => hn ▸ h r hr, fun h r hr => h _ ⟨r, hr, rfl⟩⟩
  exact ⟨fun ⟨h1, h2, h3, h4, h5, h6⟩ => ⟨h1, h2, h3, hstands.1 h4, hrise.1 h5, fun hm => hlast.1 (h6 hm)⟩,
    fun ⟨h1, h2, h3, h4, h5, h6⟩ => ⟨h1, h2, h3, hstands.2 h4, hrise.2 h5, fun hm => hlast.2 (h6 hm)⟩⟩

theorem Block.Same.transport {s t : State} (hr : Block.run.Same s t) (hh : Block.horizon.Same s t) :
    t.transport = s.transport := by
  have hrun : t.transport = { s.transport with horizonMs := t.transport.horizonMs } := hr
  have hhor : t.transport.horizonMs = s.transport.horizonMs := hh
  rw [hrun, hhor]

theorem queueSound_dependsOn : DependsOn [.rst, .time, .horizon, .run, .gen, .queue] State.QueueSound := by
  refine ⟨fun s t h ⟨h1, h2, h3, h4, h5, h6⟩ => ?_⟩
  have htr : t.transport = s.transport := (h .run (by simp)).transport (h .horizon (by simp))
  have hg : t.gen = s.gen := h .gen (by simp)
  have hq : t.queue = s.queue := h .queue (by simp)
  have hrst : t.rstLow = s.rstLow := h .rst (by simp)
  have htime : t.houseTime = s.houseTime := h .time (by simp)
  have hm : t.making = s.making := State.making_congr (by rw [htr])
  have hrefs : t.refs = s.refs := by rw [State.refs, hq, State.refs]
  have hnext : t.nextUs = s.nextUs := by rw [State.nextUs, hg, State.nextUs]
  have hhor : t.horizonUs = s.horizonUs := by rw [State.horizonUs, htr, State.horizonUs]
  exact ⟨by rw [hrst, htr]; exact h1, by rw [htr, htime, hhor]; exact h2, by rw [hm, htime, hhor, hnext]; exact h3,
    by rw [hrefs, htime, hhor]; exact h4, by rw [hrefs]; exact h5, by rw [hm, hrefs, hnext]; exact h6⟩

namespace State.QueueSound

variable {s : State}

/-- Along the queue every reference time lies at or after the front one. -/
theorem head_le (hs : s.QueueSound) {n : Nat} (hn : s.refs.head? = some n) : ∀ m ∈ s.refs, n ≤ m := by
  have hrise := hs.rise
  cases hr : s.refs with
  | nil => simp
  | cons a l =>
    rw [hr] at hn hrise
    obtain rfl : a = n := by simpa using hn
    have hpair : (a :: l).Pairwise fun n n' => n ≤ n' :=
      List.isChain_iff_pairwise.1 (hrise.imp fun _ _ h => by omega)
    exact fun m hm => (List.mem_cons.1 hm).elim (fun h => h ▸ Nat.le_refl _) fun h => (List.pairwise_cons.1 hpair).1 m h

/-- A microsecond passes with nothing due: the next record and a launch lie ahead by more than H, and the front
record has not come to its end (R28, R29, R50). -/
theorem tick (hs : s.QueueSound) (hh : s.horizonUs ≤ 250000) (hnow : s.houseTime.toNat < 2 ^ 63)
    (hrst : s.rstLow = false) (hd : s.dueEvents = []) :
    State.QueueSound { s with houseTime := s.houseTime + 1 } := by
  have htime : (s.houseTime + 1).toNat = s.houseTime.toNat + 1 := by
    have hone : (1 : Time).toNat = 1 := rfl
    rw [BitVec.toNat_add, hone]
    omega
  simp only [State.dueEvents, hrst, Bool.false_eq_true, if_false, List.append_eq_nil_iff, eventIf,
    ite_eq_right_iff, imp_false, List.cons_ne_nil] at hd
  obtain ⟨⟨⟨⟨⟨⟨-, hlaunch⟩, hgen⟩, -⟩, hretire⟩, -⟩, -⟩ := hd
  refine ⟨by simp [hrst], fun t ha ht => ?_, fun hm => ?_, fun n hn => ?_, hs.rise, hs.last⟩
  · have ha : s.transport.state = .armed := ha
    have ht : s.transport.launchTime = some t := ht
    have hb := hs.launch t ha ht
    have hnot : s.houseTime.toNat < t.toNat - s.horizonUs := by
      rw [← toNat_earlier (by omega)]
      simpa [State.launchDue, ha, ht, State.due, State.reached] using hlaunch
    dsimp only
    rw [htime]
    change s.houseTime.toNat + 1 + s.horizonUs ≤ _ ∧ _
    omega
  · have hm : s.making = true := hm
    have hb := hs.next hm
    have hnot : s.houseTime.toNat < s.nextUs - s.horizonUs := by
      have hr : ¬ (earlier (grainsToTime s.gen.n) s.horizonUs).toNat ≤ s.houseTime.toNat := by
        simpa [State.generatorDue, hm, State.reached] using hgen
      rw [toNat_earlier (by rw [toNat_grainsToTime]; exact le_trans (by omega) hb.1), toNat_grainsToTime] at hr
      exact Nat.not_le.1 hr
    change (s.houseTime + 1).toNat + s.horizonUs ≤ s.nextUs ∧ s.nextUs ≤ (s.houseTime + 1).toNat + s.horizonUs + 32228
    rw [htime]
    omega
  · have hn : n ∈ s.refs := hn
    have hb := hs.stands n hn
    cases hq : s.queue with
    | nil => simp [State.refs, hq] at hn
    | cons r q =>
      have hhead : s.refs.head? = some r.refTime.toNat := by simp [State.refs, hq]
      have hle := hs.head_le hhead n hn
      have hr := hs.stands r.refTime.toNat (by simp [State.refs, hq])
      have hnot : s.houseTime.toNat < r.refTime.toNat + 250001 := by
        rw [← toNat_later (by omega)]
        simpa [State.retireDue, hq, State.due, State.reached, Config.retireAfter] using hretire
      change (s.houseTime + 1).toNat ≤ n + 250001 ∧ n ≤ (s.houseTime + 1).toNat + s.horizonUs
      rw [htime]
      omega

/-- The transport's items change with H, the queue and the generator as they stand. -/
theorem withTransport (hs : s.QueueSound) {tr : Transport} (hh : tr.horizonMs = s.transport.horizonMs)
    (hheld : s.rstLow = true → tr.state = .stopped)
    (hl : ∀ t, tr.state = .armed → tr.launchTime = some t →
      s.houseTime.toNat + s.horizonUs ≤ t.toNat ∧ t.toNat ≤ s.houseTime.toNat + 60000000)
    (hm : tr.state = .running ∨ tr.state = .stopPending → s.making = true) :
    State.QueueSound { s with transport := tr } := by
  have hhor : State.horizonUs { s with transport := tr } = s.horizonUs := by
    simp only [State.horizonUs, hh]
  refine ⟨hheld, ?_, fun h => ?_, ?_, hs.rise, fun h => hs.last (hm ((State.making_iff _).1 h))⟩
  · rw [hhor]; exact hl
  · rw [hhor]; exact hs.next (hm ((State.making_iff _).1 h))
  · rw [hhor]; exact hs.stands

theorem enter {st : TransportState}
    (hs : State.QueueSound { s with transport := { s.transport with state := st } }) : (s.enter st).QueueSound :=
  queueSound_dependsOn.keep (postAll_touches _ _) hs

/-- Where no record is to be made, the instants of the queue alone are to be kept. -/
theorem halt (hs : s.QueueSound) {t : State} (hrefs : t.refs = s.refs) (htime : t.houseTime = s.houseTime)
    (hhor : t.transport.horizonMs = s.transport.horizonMs)
    (hst : t.transport.state = .stopped ∨ t.transport.state = .draining ∧ t.rstLow = false) : t.QueueSound := by
  have hm : t.making = false := by obtain h | ⟨h, -⟩ := hst <;> simp [State.making, h]
  have hus : t.horizonUs = s.horizonUs := by rw [State.horizonUs, hhor, State.horizonUs]
  refine ⟨fun hr => ?_, fun u ha => ?_, by simp [hm], by rw [hrefs, htime, hus]; exact hs.stands,
    by rw [hrefs]; exact hs.rise, by simp [hm]⟩
  · obtain h | ⟨-, h⟩ := hst
    · exact h
    · simp [h] at hr
  · obtain h | ⟨h, -⟩ := hst <;> simp [h] at ha

theorem toStopped (hs : s.QueueSound) : s.toStopped.QueueSound := by
  have htouch := toStopped_touches s
  have hq : s.toStopped.queue = s.queue := htouch .queue (by simp)
  exact hs.halt (by rw [State.refs, hq, State.refs]) (htouch .time (by simp))
    (by rw [State.toStopped_transport]) (.inl (by rw [State.toStopped_transport]))

theorem reachStop (hs : s.QueueSound) (hrst : s.rstLow = false) : s.reachStop.QueueSound := by
  obtain hq | ⟨q, r, hq⟩ := List.eq_nil_or_concat s.queue
  · rw [State.reachStop_of_empty hq]
    exact toStopped (s := s.playersStop) ⟨hs.held, hs.launch, hs.next, hs.stands, hs.rise, hs.last⟩
  · rw [List.concat_eq_append] at hq
    have htr := State.reachStop_transport_of_record hq
    have htouch := reachStop_touches s
    have hrst' : s.reachStop.rstLow = s.rstLow := htouch .rst (by simp)
    refine hs.halt ?_ (htouch .time (by simp)) (by rw [htr]) (.inr ⟨by rw [htr], by rw [hrst', hrst]⟩)
    rw [State.refs, State.reachStop_queue]
    exact markNewest_map (fun _ _ => rfl) s.queue

theorem setStop (hs : s.QueueSound) (hrst : s.rstLow = false)
    (hr : s.transport.state = .running ∨ s.transport.state = .stopPending) (x : Position) :
    (s.setStop x).QueueSound := by
  have hm := (State.making_iff s).2 hr
  have hne : s.transport.state ≠ .armed := by obtain h | h := hr <;> simp [h]
  unfold State.setStop
  split
  · exact hs.reachStop hrst
  · dsimp only
    split
    · exact enter (hs.withTransport rfl (by simp [hrst]) (by simp) fun _ => hm)
    · exact hs.withTransport rfl (by simp [hrst]) (fun t h => absurd h hne) fun _ => hm

theorem start (hs : s.QueueSound) (hnow : s.houseTime.toNat < 2 ^ 63) (hrst : s.rstLow = false)
    (hh : s.horizonUs ≤ 250000) (t : Time) : (startBody t s).1.QueueSound := by
  have hrange := s.launchFor_range hh hnow t
  unfold startBody
  split
  · next h =>
    exact enter (s := s.withLaunch _) (hs.withTransport rfl (by simp [hrst])
      (fun u _ hu => by cases hu; exact hrange) (by simp))
  · next h =>
    exact hs.withTransport rfl (by simp [hrst]) (fun u _ hu => by cases hu; exact hrange) (by simp [h])
  · exact hs
  · next h =>
    exact enter (hs.withTransport rfl (by simp [hrst]) (by simp) fun _ => (State.making_iff s).2 (.inr h))
  · exact hs

theorem stop (hs : s.QueueSound) (hrst : s.rstLow = false) (q : Byte) : (stopBody q s).1.QueueSound := by
  obtain e | ⟨h, e⟩ | ⟨x, h, e⟩ := stopBody_cases q s <;> rw [e]
  · exact hs
  · exact hs.toStopped
  · exact hs.setStop hrst h x

/-- A stopped transport with an empty queue keeps it, whatever H, the position and house time are. -/
theorem of_stopped (hst : s.transport.state = .stopped) (hq : s.queue = []) : s.QueueSound := by
  have hrefs : s.refs = [] := by simp [State.refs, hq]
  exact ⟨fun _ => hst, by simp [hst], by simp [State.making, hst], by simp [hrefs], by simp [hrefs],
    by simp [State.making, hst]⟩

theorem setHorizon (hs : s.QueueSound) (hr : s.RunSound) (ms : Byte) : (setHorizonBody ms s).1.QueueSound := by
  unfold setHorizonBody
  split
  · next h => exact of_stopped h (hr.queue_empty (.inl h))
  · exact hs

theorem locate (hs : s.QueueSound) (hr : s.RunSound) (bar : BitVec 16) (beat : Byte) :
    (locateBody bar beat s).1.QueueSound := by
  obtain e | ⟨h, e⟩ := locateBody_cases bar beat s <;> rw [e]
  · exact hs
  · exact queueSound_dependsOn.keep (dropAllCues_touches _) (of_stopped h (hr.queue_empty (.inl h)))

theorem gridReset (hs : s.QueueSound) (hr : s.RunSound) : (gridResetBody s).1.QueueSound := by
  obtain e | ⟨h, e⟩ := gridResetBody_cases s <;> rw [e]
  · exact hs
  · refine queueSound_dependsOn.keep (touches_players _ _) ?_
    exact queueSound_dependsOn.keep (dropAllCues_touches _) (of_stopped h (hr.queue_empty (.inl h)))

/-- A record made H before its reference time, after which the generator stands a pulse and its slip further on
(R7, R8, R29). -/
theorem makeRecord {f : Firing} (hs : f.state.QueueSound) (hg : f.state.GridSound)
    (hrst : f.state.rstLow = false) (hnow : f.state.houseTime.toNat < 2 ^ 63) (hh : f.state.horizonUs ≤ 250000)
    (hat : f.state.nextUs = f.state.houseTime.toNat + f.state.horizonUs)
    (hlast : ∀ n, f.state.refs.getLast? = some n → n + 2018 ≤ f.state.nextUs)
    {tr : Transport} (htr : tr.horizonMs = f.state.transport.horizonMs) (hrun : tr.state ≠ .armed) (launch : Bool) :
    State.QueueSound { makeRecord launch f with transport := tr } := by
  obtain ⟨r, hq, -, href⟩ := makeRecord_queue launch f
  have htouch := makeRecord_touches launch f
  have hrst' : (Machine.makeRecord launch f).rstLow = f.state.rstLow := htouch .rst (by simp)
  have htime : (Machine.makeRecord launch f).houseTime = f.state.houseTime := htouch .time (by simp)
  have hi := hg.makingEngine.1.1
  have hlo := Engine.stepLength_ge hi
  have hhi := Engine.stepLength_le hi
  have hfloor : f.state.gen.n.toNat / 65536 = f.state.houseTime.toNat + f.state.horizonUs := hat
  have hnext : f.state.nextUs + 2018 ≤ (Machine.makeRecord launch f).nextUs
      ∧ (Machine.makeRecord launch f).nextUs ≤ f.state.nextUs + 32228 := by
    have hsum := toNat_grains_add (n := f.state.gen.n)
      (d := (f.state.makingEngine.interval : Int) + f.state.makingEngine.slipPortion) (by omega) (by omega)
    simp only [State.nextUs, makeRecord_gen]
    omega
  have hrefs : State.refs { Machine.makeRecord launch f with transport := tr } = f.state.refs ++ [f.state.nextUs] := by
    simp [State.refs, State.nextUs, hq, href, toNat_grainsToTime]
  have hhor : State.horizonUs { Machine.makeRecord launch f with transport := tr } = f.state.horizonUs := by
    simp only [State.horizonUs, htr]
  refine ⟨by simp [hrst', hrst], by simp [hrun], fun _ => ?_, fun n hn => ?_, ?_, fun _ n hn => ?_⟩
  · rw [hhor]
    change (Machine.makeRecord launch f).houseTime.toNat + _ ≤ (Machine.makeRecord launch f).nextUs ∧ _
    change _ ∧ (Machine.makeRecord launch f).nextUs ≤ (Machine.makeRecord launch f).houseTime.toNat + _ + _
    rw [htime]
    omega
  · rw [hhor]
    change (Machine.makeRecord launch f).houseTime.toNat ≤ _ ∧ _ ≤ (Machine.makeRecord launch f).houseTime.toNat + _
    rw [htime]
    rw [hrefs, List.mem_append, List.mem_singleton] at hn
    obtain hn | rfl := hn
    · exact hs.stands n hn
    · omega
  · rw [hrefs, List.isChain_append]
    exact ⟨hs.rise, by simp, fun n hn n' hn' => by simp at hn'; subst hn'; exact hlast n hn⟩
  · rw [hrefs, List.getLast?_concat] at hn
    cases hn
    exact hnext.1

theorem fireCues (hs : s.QueueSound) : s.fireCues.state.QueueSound :=
  queueSound_dependsOn.keep (fireCues_touches s) hs

theorem stopStep (hs : s.QueueSound) (hrst : s.rstLow = false) : (stopStep s.fireCues).QueueSound := by
  have h1 : s.fireCues.state.rstLow = s.rstLow := fireCues_touches s .rst (by simp)
  have h2 : s.fireCues.beforeStop.rstLow = s.fireCues.state.rstLow := Firing.beforeStop_touches _ .rst (by simp)
  rw [stopStep_eq]
  exact reachStop (queueSound_dependsOn.keep (Firing.beforeStop_touches _) hs.fireCues) (by rw [h2, h1, hrst])

end State.QueueSound

/-- What the instants along the queue are kept from: the grid, the table, and house time short of 2^63. -/
structure State.RunsSoundly (s : State) : Prop where
  grid : s.GridInv
  run : s.RunSound
  queue : s.QueueSound
  time : s.houseTime.toNat < 2 ^ 63

namespace State.RunsSoundly

variable {s : State}

theorem horizonUs_le (hs : s.RunsSoundly) : s.horizonUs ≤ 250000 := by
  have := hs.run.horizon
  unfold State.horizonUs
  omega

/-- The part as it stands once the due cues have fired. -/
theorem fireCues (hs : s.RunsSoundly) : s.fireCues.state.GridSound ∧ s.fireCues.state.QueueSound
    ∧ s.fireCues.state.rstLow = s.rstLow ∧ s.fireCues.state.houseTime = s.houseTime
    ∧ s.fireCues.state.horizonUs = s.horizonUs ∧ s.fireCues.state.refs = s.refs := by
  obtain ⟨hg, hc⟩ := (gridInv_iff s).1 hs.grid
  refine ⟨hg.fireCues hc, hs.queue.fireCues, fireCues_touches s .rst (by simp), fireCues_touches s .time (by simp), ?_, ?_⟩
  · rw [State.horizonUs, State.fireCues_transport, State.horizonUs]
  · rw [State.refs, State.fireCues_queue, State.refs]

theorem generate (hs : s.RunsSoundly) (hd : s.generatorDue = true) : s.generate.QueueSound := by
  obtain ⟨hm, hdue⟩ := Bool.and_eq_true_iff.1 hd
  have hrun := (State.making_iff s).1 hm
  have hrst : s.rstLow = false := by
    cases hr : s.rstLow with
    | false => rfl
    | true => obtain h | h := hrun <;> simp [hs.queue.held hr] at h
  obtain ⟨-, e⟩ | ⟨-, ⟨-, e⟩ | ⟨-, e⟩⟩ := s.generate_cases <;> rw [e]
  · exact hs.queue.reachStop hrst
  · exact hs.queue.stopStep hrst
  · obtain ⟨hg, hq, hrst', htime, hhor, hrefs⟩ := hs.fireCues
    have hnext := hs.queue.next hm
    have hnextUs : s.fireCues.state.nextUs = s.nextUs := by rw [State.nextUs, State.fireCues_gen, State.nextUs]
    have hat : s.nextUs = s.houseTime.toNat + s.horizonUs := by
      have hr : (earlier (grainsToTime s.gen.n) s.horizonUs).toNat ≤ s.houseTime.toNat := by
        simpa [State.reached] using hdue
      rw [toNat_earlier (by rw [toNat_grainsToTime]; exact le_trans (by omega) hnext.1), toNat_grainsToTime] at hr
      change s.nextUs - _ ≤ _ at hr
      omega
    have htr : (makeRecord false s.fireCues).transport = s.transport := by
      rw [makeRecord_transport, State.fireCues_transport]
    have h := hq.makeRecord hg (by rw [hrst', hrst]) (by rw [htime]; exact hs.time)
      (by rw [hhor]; exact hs.horizonUs_le) (by rw [hnextUs, htime, hhor, hat])
      (by rw [hrefs, hnextUs]; exact hs.queue.last hm) (tr := s.transport)
      (by rw [State.fireCues_transport]) (by obtain h | h := hrun <;> simp [h]) false
    rwa [← htr] at h

theorem launch (hs : s.RunsSoundly) (hd : s.launchDue = true) : s.launch.QueueSound := by
  obtain ⟨ha, hdue⟩ := Bool.and_eq_true_iff.1 hd
  have ha : s.transport.state = .armed := of_decide_eq_true ha
  have hrst : s.rstLow = false := by
    cases hr : s.rstLow with
    | false => rfl
    | true => simp [hs.queue.held hr] at ha
  obtain ⟨-, e⟩ | ⟨-, ⟨-, e⟩ | ⟨-, e⟩⟩ := s.launch_cases <;> rw [e]
  · exact hs.queue.reachStop hrst
  · exact hs.queue.stopStep hrst
  · obtain ⟨hg, hq, hrst', htime, hhor, hrefs⟩ := hs.fireCues
    obtain ⟨t, ht⟩ := Option.isSome_iff_exists.1 (hs.run.legal.launchTime_isSome (by simp [ha]))
    have hb := hs.queue.launch t ha ht
    have hat : t.toNat = s.houseTime.toNat + s.horizonUs := by
      have hr : (earlier t s.horizonUs).toNat ≤ s.houseTime.toNat := by
        simpa [ht, State.due, State.reached] using hdue
      rw [toNat_earlier (by omega)] at hr
      omega
    have hset := setLaunchN_touches s.fireCues.state
    have htr : s.fireCues.state.setLaunchN.transport = s.transport := by
      rw [hset.transport, State.fireCues_transport]
    have hnextUs : s.fireCues.state.setLaunchN.nextUs = t.toNat := by
      rw [State.nextUs, (setLaunchN_spec s.fireCues.state).2.2 t (by rw [State.fireCues_transport, ht]),
        toNat_timeToGrains]
      omega
    have hempty : s.fireCues.state.setLaunchN.refs = [] := by
      have hq : s.fireCues.state.setLaunchN.queue = s.fireCues.state.queue := hset .queue (by simp)
      rw [State.refs, hq, State.fireCues_queue, hs.run.queue_empty (.inr ha)]
      rfl
    have hhor' : s.fireCues.state.setLaunchN.horizonUs = s.horizonUs := by
      rw [State.horizonUs, htr, State.horizonUs]
    have htime' : s.fireCues.state.setLaunchN.houseTime = s.fireCues.state.houseTime := hset .time (by simp)
    have hrst'' : s.fireCues.state.setLaunchN.rstLow = s.fireCues.state.rstLow := hset .rst (by simp)
    have hqueue : s.fireCues.state.setLaunchN.QueueSound := by
      refine ⟨by simp [hrst'', hrst', hrst], ?_, ?_, by simp [hempty], by simp [hempty], by simp [hempty]⟩
      · rw [htr, htime', htime, hhor']
        exact hs.queue.launch
      · simp [State.making, htr, ha]
    refine State.QueueSound.enter (State.QueueSound.makeRecord
      (f := { s.fireCues with state := s.fireCues.state.setLaunchN }) hqueue hg.setLaunchN ?_ ?_ ?_ ?_ ?_ ?_
      (by simp) true)
    · dsimp only; rw [hrst'', hrst', hrst]
    · dsimp only; rw [htime', htime]; exact hs.time
    · dsimp only; rw [hhor']; exact hs.horizonUs_le
    · dsimp only; rw [hnextUs, htime', htime, hhor', hat]
    · dsimp only; rw [hempty]; simp
    · dsimp only; rw [makeRecord_transport]

/-- A command's body keeps the instants along the queue. -/
theorem body (i : Instr) :
    ForBody i fun p c b => ∀ s, ((s.port p).isOpen = true ∨ openExempt c = true) →
      s.rstLow = false → s.RunsSoundly → (b s).1.QueueSound := by
  cases i with
  | start p t =>
    exact fun s _ hr hs => asLeader_keeps hs.queue fun _ => hs.queue.start hs.time hr hs.horizonUs_le t
  | stop p q => exact fun s _ hr hs => asLeader_keeps hs.queue fun _ => hs.queue.stop hr q
  | locate p bar beat => exact fun s _ _ hs => asLeader_keeps hs.queue fun _ => hs.queue.locate hs.run bar beat
  | gridReset p => exact fun s _ _ hs => asLeader_keeps hs.queue fun _ => hs.queue.gridReset hs.run
  | setHorizon p ms => exact fun s _ _ hs => hs.queue.setHorizon hs.run ms
  | _ => exact ForBody.of_dependsOn queueSound_dependsOn fun _ hs => hs.queue

/-- An event keeps the instants along the queue. -/
theorem event {i : Instr} {s t : State} (h : EventDoes s t i) (hs : s.RunsSoundly) : t.QueueSound := by
  have hdrained : s.drained.QueueSound := by
    refine State.QueueSound.toStopped (s := { s with queue := [] }) ?_
    exact ⟨hs.queue.held, hs.queue.launch, hs.queue.next, by simp [State.refs], by simp [State.refs],
      by simp [State.refs]⟩
  cases i with
  | reset => subst h; exact State.QueueSound.of_stopped rfl rfl
  | resetRelease =>
    obtain ⟨hr, rfl⟩ := h
    have hst := hs.queue.held hr
    exact State.QueueSound.of_stopped hst (hs.run.queue_empty (.inl hst))
  | launchStep => obtain ⟨hd, rfl⟩ := h; exact hs.launch hd
  | generatorStep => obtain ⟨hd, rfl⟩ := h; exact hs.generate hd
  | recordSounds =>
    obtain ⟨r, -, rfl⟩ := h
    have hrefs : State.refs (s.sound r) = s.refs := by
      rw [State.sound_frame]
      exact markSounded_map (fun _ _ => rfl) s.queue
    have hq := hs.queue
    rw [State.sound_frame] at hrefs ⊢
    exact ⟨hq.held, hq.launch, hq.next, by rw [hrefs]; exact hq.stands, by rw [hrefs]; exact hq.rise,
      by rw [hrefs]; exact hq.last⟩
  | recordRetires =>
    obtain ⟨-, rfl⟩ := h
    cases hq : s.queue with
    | nil => simpa [State.retire, hq] using hs.queue
    | cons r q =>
      rw [State.retire_cons hq]
      split
      · exact hdrained
      · have hrefs : s.refs = r.refTime.toNat :: State.refs { s with queue := q } := by simp [State.refs, hq]
        have hstands := hs.queue.stands
        have hrise := hs.queue.rise
        have hlast := hs.queue.last
        rw [hrefs] at hstands hrise hlast
        refine ⟨hs.queue.held, hs.queue.launch, hs.queue.next, fun n hn => hstands n (List.mem_cons_of_mem _ hn),
          hrise.tail, fun hm n hn => hlast hm n ?_⟩
        rw [List.getLast?_cons, hn, Option.getD_some]
  | drainingEnd => obtain ⟨-, rfl⟩ := h; exact hdrained
  | _ => exact queueSound_dependsOn.event h hs.queue

/-- Records that stand within H + 250,001 µs, 2018 µs apart, are at most 248 (R51). -/
theorem queue_length (hr : s.RunSound) (hq : s.QueueSound) : s.queue.length ≤ 248 := by
  have hspan : ∀ (l : List Nat) (a : Nat), (a :: l).IsChain (fun n n' => n + 2018 ≤ n') →
      ∀ z, (a :: l).getLast? = some z → a + 2018 * l.length ≤ z := by
    intro l
    induction l with
    | nil => intro a _ z hz; cases hz; simp
    | cons b l ih =>
      intro a h z hz
      obtain ⟨hab, h⟩ := List.isChain_cons_cons.1 h
      rw [List.getLast?_cons_cons] at hz
      have hab : a + 2018 ≤ b := hab
      have hle : b + 2018 * l.length ≤ z := ih b h z hz
      calc a + 2018 * (b :: l).length = a + 2018 + 2018 * l.length := by rw [List.length_cons]; ring
        _ ≤ b + 2018 * l.length := Nat.add_le_add_right hab _
        _ ≤ z := hle
  have hlen : s.queue.length = s.refs.length := by simp [State.refs]
  rw [hlen]
  cases hrefs : s.refs with
  | nil => simp
  | cons a l =>
    obtain ⟨z, hz⟩ := Option.isSome_iff_exists.1 (List.getLast?_isSome.2 (List.cons_ne_nil a l))
    have hrise := hq.rise
    have hstands := hq.stands
    rw [hrefs] at hrise hstands
    have hle := hspan l a hrise z hz
    have ha := hstands a List.mem_cons_self
    have hz := hstands z (List.mem_of_getLast? hz)
    have hh := hr.horizon
    unfold State.horizonUs at ha hz
    simp only [List.length_cons]
    omega

end State.RunsSoundly

theorem runsSoundly_dependsOn :
    DependsOn [.rst, .time, .engine, .lead, .cues, .horizon, .run, .gen, .queue, .lastBeat] State.RunsSoundly := by
  refine ⟨fun s t h hs => ?_⟩
  have hsub : ∀ {D : List Block}, (∀ b ∈ D, b ∈ [Block.rst, .time, .engine, .lead, .cues, .horizon, .run, .gen,
      .queue, .lastBeat]) → ∀ b ∈ D, b.Same s t := fun hD b hb => h b (hD b hb)
  have htime : t.houseTime = s.houseTime := h .time (by simp)
  exact ⟨gridInv_dependsOn.carry s t (hsub (by simp)) hs.grid, runSound_dependsOn.carry s t (hsub (by simp)) hs.run,
    queueSound_dependsOn.carry s t (hsub (by simp)) hs.queue, by rw [htime]; exact hs.time⟩

theorem DependsOn.mono {D E : List Block} {P : State → Prop} (h : DependsOn D P) (hs : D ⊆ E := by simp) :
    DependsOn E P := ⟨fun s t hst => h.carry s t fun b hb => hst b (hs hb)⟩

/-- Settles O53: the table and the pulse numbers by every operation of the transport and the queue; the instants by
house time, which cannot pass an instant whose event is due, and by the length of a generator step. -/
theorem stepsKeepTheRunLegal : Obligations.StepsKeepTheRunLegal := by
  refine ⟨step_runInv, fun s t hg hr hq hnow h => ?_, fun s hr hq => ?_⟩
  · rw [runInv_iff] at hr
    rw [queueInv_iff] at hq ⊢
    refine step_keeps_of_dependsOn runsSoundly_dependsOn (queueSound_dependsOn.mono) (fun _ hs => hs.queue)
      (fun s hs hrst hd => hs.queue.tick hs.horizonUs_le hs.time hrst hd) State.RunsSoundly.body
      (fun i s t h hs => hs.event h) ?_ s t ⟨hg, hr, hq, hnow⟩ h
    simp
  · rw [runInv_iff] at hr
    rw [queueInv_iff] at hq
    exact ⟨State.RunsSoundly.queue_length hr hq, fun h => hr.queue_empty (.inl h)⟩

end Sys2Proof.Machine

/-! PROOF. The lead arbiter and the taps (chapters 4 and 5): every change of the leader field leaves a lawful leader,
slot and timers, and every edge a tap that follows its ring. -/

namespace Sys2Proof.Machine

/-! ### One tap -/

section Tap

variable {tap : Tap}

/-- A tap with another ring, its k and offset as they stand, is legal with a lawful suspect flag and deadline. -/
theorem Tap.Legal.ringed (h : tap.Legal) {ring : List Time} (hlen : ring.length ≤ 8) {u : Bool}
    (hu : u = true → 3 ≤ ring.length) {d : Option Time} (hd : d.isSome = true ↔ ring ≠ []) :
    Tap.Legal { tap.withRing ring with suspect := u, deadline := d } := by
  obtain ⟨hk, ho, -⟩ := h
  exact ⟨hk, ho, hlen, rfl, rfl, rfl, hu, hd⟩

theorem Tap.Legal.emptied (h : tap.Legal) : tap.emptied.Legal :=
  h.ringed (by simp) (by simp) (by simp)

theorem Tap.Legal.takeRing (h : tap.Legal) (now : Time) {ring : List Time} (hlen : ring.length ≤ 8)
    (hne : ring ≠ []) : (tap.takeRing now ring).Legal :=
  h.ringed hlen (by simp) (by simp [hne])

theorem Tap.Legal.withDebounce (h : tap.Legal) (r : Option Time) : Tap.Legal { tap with debounceRef := r } := h

theorem Tap.Legal.withFollow (h : tap.Legal) (f : Bool) : Tap.Legal { tap with follow := f } := h

theorem pushEdge_length {ring : List Time} (h : ring.length ≤ 8) (e : Time) : (pushEdge ring e).length ≤ 8 := by
  unfold pushEdge Config.ringDepth
  split
  · simp only [List.length_append, List.length_singleton]; omega
  · simp only [List.length_append, List.length_drop, List.length_singleton]; omega

theorem isOutlier_length {ring : List Time} {e : Time} (h : isOutlier ring e = true) : 3 ≤ ring.length :=
  of_decide_eq_true (Bool.and_eq_true_iff.1 h).1

/-- An edge leaves a legal tap, which follows as before; one that is discarded leaves the ring (R80, R84). -/
theorem Tap.Legal.edge (h : tap.Legal) (now : Time) : (tap.edge now).1.Legal := by
  have hd := h.withDebounce (some now)
  obtain ⟨-, -, hlen, hrest⟩ := id h
  unfold Tap.edge
  dsimp only
  split
  · exact h
  · split
    · next ho =>
      split
      · exact hd.takeRing now (by simp) (by simp)
      · obtain ⟨hk, hoff, hlen, hst, hi, ht, -, hdl⟩ := hd
        exact ⟨hk, hoff, hlen, hst, hi, ht, fun _ => isOutlier_length ho, hdl⟩
    · exact hd.takeRing now (pushEdge_length hlen _) (by simp [pushEdge])

theorem Tap.edge_follow (now : Time) : (tap.edge now).1.follow = tap.follow := by
  unfold Tap.edge
  dsimp only
  (repeat' split) <;> rfl

theorem Tap.edge_discarded (now : Time) (h : (tap.edge now).2 = .discarded) :
    (tap.edge now).1.state = tap.state := by
  unfold Tap.edge at h ⊢
  dsimp only at h ⊢
  (repeat' split at h) <;> simp_all

/-- A shift of the whole ring keeps its span (R94). -/
theorem ringSpan_shift (ring : List Time) (o : Int) : ringSpan (ring.map fun e => shifted e o) = ringSpan ring := by
  unfold ringSpan
  rw [List.head?_map, List.getLast?_map]
  cases ring.head? with
  | none => rfl
  | some a =>
    cases ring.getLast? with
    | none => rfl
    | some b =>
      simp only [Option.map_some, signedDiff, shifted]
      rw [show b + BitVec.ofInt 64 o - (a + BitVec.ofInt 64 o) = b - a from add_sub_add_right_eq_sub b a _]

theorem Tap.Legal.moveOffset (h : tap.Legal) {o : Int} (ho : o.natAbs ≤ 250000) (d : Int) :
    Tap.Legal { tap with offset := o, ring := tap.ring.map fun e => shifted e d } := by
  obtain ⟨hk, -, hlen, hst, hi, ht, hu, hd⟩ := h
  refine ⟨hk, ho, by simpa using hlen, by simpa using hst, ?_, ht, by simpa using hu, by simpa using hd⟩
  rw [hi]
  simp [measuredIntervalOf, ringSpan_shift]

theorem readEdgesPerBeat_legal {b : Byte} {n : Nat} (h : readEdgesPerBeat b = some n) :
    n = 1 ∨ n = 2 ∨ n = 4 ∨ n = 24 := by
  unfold readEdgesPerBeat at h
  split at h <;> cases h <;> simp

theorem Tap.Legal.configure {n : Nat} (hn : n = 1 ∨ n = 2 ∨ n = 4 ∨ n = 24) {o : Int}
    (ho : o.natAbs ≤ 250000) :
    ({ tap with k := n, offset := o, debounceRef := none } : Tap).emptied.Legal := by
  exact ⟨hn, ho, by simp [Tap.emptied, Tap.withRing], rfl, rfl, rfl, by simp [Tap.emptied], by
    simp [Tap.emptied, Tap.withRing]⟩

end Tap

/-! ### The arbiter -/

/-- The invariant of the leader, the slot, the timers and the taps. -/
structure State.LeadSound (s : State) : Prop where
  leaderPort : ∀ p, s.arbiter.leader = .port p → (s.port p).isOpen = true ∧ (s.port p).eligible = true
  leaderTap : ∀ t, s.arbiter.leader = .tap t → (s.tap t).state = .steady
  follow : ∀ t, (s.tap t).follow = true ↔ s.arbiter.leader = .tap t
  slot : s.SlotLegal
  timers : s.TimersLegal
  slip : s.arbiter.leader = .nobody → s.engine.slip = 0
  taps : ∀ t, (s.tap t).Legal

theorem leadSound_iff (s : State) : s.LeadInv ∧ s.TapInv ↔ s.LeadSound := by
  constructor
  · rintro ⟨⟨⟨h1, h2, h3⟩, h4, h5, h6, -⟩, h7⟩
    exact ⟨h1, h2, h3, h4, h5, h6, h7⟩
  · rintro ⟨h1, h2, h3, h4, h5, h6, h7⟩
    refine ⟨⟨⟨h1, h2, h3⟩, h4, h5, h6, fun t => ?_⟩, h7⟩
    obtain ⟨-, -, -, hst, -⟩ := h7 t
    exact hst

theorem DeskPort.profile_eq {d e : DeskPort} (h : d.profile = e.profile) :
    d.isOpen = e.isOpen ∧ d.eligible = e.eligible ∧ d.rank = e.rank ∧ d.silenceLimit = e.silenceLimit
      ∧ d.attention = e.attention := by
  simp only [DeskPort.profile, Prod.mk.injEq] at h
  obtain ⟨h1, h2, h3, h4, h5, -⟩ := h
  exact ⟨h1, h2, h3, h4, h5⟩

theorem Touches.arbiter {bs : List Block} {s t : State} (h : Touches bs s t) (hl : Block.lead ∉ bs := by simp)
    (hs : Block.silence ∉ bs := by simp) : t.arbiter = s.arbiter := by
  have hlead : t.arbiter = { s.arbiter with silenceExpiry := t.arbiter.silenceExpiry } := h .lead hl
  have hsil : t.arbiter.silenceExpiry = s.arbiter.silenceExpiry := h .silence hs
  rw [hlead, hsil]

/-- What does not touch the arbiter, the taps and the profiles keeps it where it brings no slip to a grid that
nobody leads. -/
theorem State.LeadSound.of_touches {bs : List Block} {s t : State} (hs : s.LeadSound) (h : Touches bs s t)
    (hslip : s.arbiter.leader = .nobody → s.engine.slip = 0 → t.engine.slip = 0)
    (hbs : ∀ b ∈ [Block.lead, .silence, .taps, .profiles], b ∉ bs := by simp) : t.LeadSound := by
  have harb : t.arbiter = s.arbiter := h.arbiter (hbs _ (by simp)) (hbs _ (by simp))
  have htaps : t.taps = s.taps := h .taps (hbs _ (by simp))
  have htap : t.tap = s.tap := funext fun k => congrArg (·[k]) htaps
  have hport : ∀ p, (t.port p).profile = (s.port p).profile := h .profiles (hbs _ (by simp))
  have hopen : ∀ p, (t.port p).isOpen = (s.port p).isOpen := fun p => (DeskPort.profile_eq (hport p)).1
  have helig : ∀ p, (t.port p).eligible = (s.port p).eligible := fun p => (DeskPort.profile_eq (hport p)).2.1
  have hrank : ∀ p, (t.port p).rank = (s.port p).rank := fun p => (DeskPort.profile_eq (hport p)).2.2.1
  have hlimit : ∀ p, (t.port p).silenceLimit = (s.port p).silenceLimit :=
    fun p => (DeskPort.profile_eq (hport p)).2.2.2.1
  obtain ⟨h1, h2, h3, h4, h5, h6, h7⟩ := hs
  refine ⟨?_, ?_, ?_, ?_, ?_, ?_, ?_⟩
  · simpa only [harb, hopen, helig] using h1
  · simpa only [harb, htap] using h2
  · simpa only [harb, htap] using h3
  · simpa only [State.SlotLegal, harb, hopen, helig, hrank] using h4
  · simpa only [State.TimersLegal, harb, hlimit] using h5
  · rw [harb]; exact fun hl => hslip hl (h6 hl)
  · simpa only [htap] using h7

theorem leadSound_dependsOn : DependsOn [.lead, .silence, .taps, .engine, .profiles] State.LeadSound := by
  refine ⟨fun s t h hs => ?_⟩
  let bs : List Block := [.rst, .time, .clear, .horizon, .run, .gen, .queue, .lastBeat, .cues, .allocations,
    .patternMem, .writeSettings, .players, .claims, .lanes, .links, .notices]
  have ht : Touches bs s t := by
    intro b hb
    refine h b ?_
    cases b <;> simp [bs] at hb ⊢
  have he : t.engine = s.engine := h .engine (by simp)
  exact hs.of_touches ht (fun _ hz => by rw [he]; exact hz) (by simp [bs])

namespace State.LeadSound

variable {s : State}

/-- With no bid pending the wait timer stands still (R54). -/
theorem wait_none (hs : s.LeadSound) (h : s.arbiter.slot = none) : s.arbiter.waitExpiry = none := by
  have := hs.timers.1
  simpa [h] using this

/-- A bid is pending against a leading port alone (R58). -/
theorem slot_none (hs : s.LeadSound) (h : ∀ p, s.arbiter.leader ≠ .port p) : s.arbiter.slot = none := by
  cases hb : s.arbiter.slot with
  | none => rfl
  | some b =>
    obtain ⟨⟨y, hy, -⟩, -⟩ := hs.slot b hb
    exact absurd hy (h y)

/-- The follow flags once the leader field is set (R89). -/
theorem setLeader_follow (hf : ∀ t, (s.tap t).follow = true ↔ s.arbiter.leader = .tap t) (l : Leader) (t : Fin 4) :
    ((s.setLeader l).tap t).follow = true ↔ l = .tap t := by
  obtain ⟨-, -, ht, -⟩ := s.setLeader_spec l
  rw [ht]
  split
  · simp
  · next hne =>
    rw [not_or] at hne
    rw [hf t]
    exact ⟨fun h => absurd h hne.1, fun h => absurd h hne.2⟩

theorem setLeader_taps (ht : ∀ t, (s.tap t).Legal) (l : Leader) (t : Fin 4) : ((s.setLeader l).tap t).Legal := by
  obtain ⟨-, -, hspec, -⟩ := s.setLeader_spec l
  rw [hspec]
  split
  · exact (ht t).withFollow _
  · exact ht t

theorem setLeader_tap_state (s : State) (l : Leader) (t : Fin 4) : ((s.setLeader l).tap t).state = (s.tap t).state := by
  obtain ⟨-, -, hspec, -⟩ := s.setLeader_spec l
  rw [hspec]
  split <;> rfl

/-- With nobody leading, no bid and no timer, the arbiter is lawful. -/
theorem nobody (hf : ∀ t, (s.tap t).follow = true ↔ s.arbiter.leader = .tap t) (ht : ∀ t, (s.tap t).Legal)
    (hslot : s.arbiter.slot = none) (hwait : s.arbiter.waitExpiry = none) :
    (s.setLeader .nobody).stopSilence.LeadSound := by
  refine ⟨fun p h => (nomatch h), fun t h => (nomatch h), fun t => ?_, ?_, ⟨?_, ?_⟩, fun _ => rfl, setLeader_taps ht _⟩
  · exact setLeader_follow hf .nobody t
  · intro b hb
    simp [State.stopSilence, State.setLeader, State.clearSlip, hslot] at hb
  · simp [State.stopSilence, State.setLeader, State.clearSlip, hslot, hwait]
  · simp [State.stopSilence, State.setLeader, State.clearSlip]

theorem freewheels (hf : ∀ t, (s.tap t).follow = true ↔ s.arbiter.leader = .tap t) (ht : ∀ t, (s.tap t).Legal)
    (hslot : s.arbiter.slot = none) (hwait : s.arbiter.waitExpiry = none) (r : FreewheelReason) :
    (s.freewheels r).LeadSound :=
  leadSound_dependsOn.keep (postAll_touches _ _) (nobody hf ht hslot hwait)

/-- A grant to an open and eligible port leaves a lawful arbiter (R61). -/
theorem grant (hf : ∀ t, (s.tap t).follow = true ↔ s.arbiter.leader = .tap t) (ht : ∀ t, (s.tap t).Legal) {b : Bid}
    (ho : (s.port b.bidder).isOpen = true) (he : (s.port b.bidder).eligible = true) (r : Route) :
    (s.grant b r).LeadSound := by
  let led := ((s.setLeader (.port b.bidder)).emptySlot.stopSilence).restartSilence b.bidder
  have hled : led.arbiter = ⟨.port b.bidder, none, none, if (s.port b.bidder).silenceLimit = 0 then none
      else some (later s.houseTime ((s.port b.bidder).silenceLimit * 100000))⟩ := by
    simp [led, State.restartSilence, State.stopSilence, State.emptySlot, State.setLeader, State.clearSlip, State.port]
    rfl
  have hports : led.ports = s.ports := by
    simp [led, State.restartSilence, State.stopSilence, State.emptySlot, State.setLeader, State.clearSlip]
  have hport : ∀ p, led.port p = s.port p := fun p => congrArg (·[p.idx]) hports
  have htaps : led.taps = (s.setLeader (.port b.bidder)).taps := restartSilence_touches _ _ .taps (by simp)
  have htap : ∀ t, led.tap t = (s.setLeader (.port b.bidder)).tap t := fun t => congrArg (·[t]) htaps
  have hsound : led.LeadSound := by
    refine ⟨fun p h => ?_, fun t h => ?_, fun t => ?_, fun c hc => ?_, ⟨?_, ?_⟩, fun h => ?_, fun t => ?_⟩
    · rw [hled] at h; cases h; rw [hport]; exact ⟨ho, he⟩
    · rw [hled] at h; cases h
    · rw [htap, hled]; exact setLeader_follow hf _ t
    · rw [hled] at hc; cases hc
    · simp [hled]
    · simp only [hled, Leader.port.injEq, exists_eq_left', hport]
      split <;> simp_all
    · rw [hled] at h; cases h
    · rw [htap]; exact setLeader_taps ht _ t
  have htouch : Touches [.engine, .notices] led (s.grant b r) :=
    ((grantEngine_touches led b r).mono.trans (grantLost_touches _ _ _ _).mono).trans (post_touches _ _ _).mono
  exact hsound.of_touches htouch fun h => by rw [hled] at h; cases h

/-- The grant of a pending bid. -/
theorem grantPending (hs : s.LeadSound) {b : Bid} (hb : s.arbiter.slot = some b) (r : Route) :
    (s.grant b r).LeadSound := by
  obtain ⟨-, ho, he, -⟩ := hs.slot b hb
  exact grant hs.follow hs.taps ho he r

theorem emptySlot (hs : s.LeadSound) : s.emptySlot.LeadSound :=
  ⟨hs.leaderPort, hs.leaderTap, hs.follow, fun b hb => (nomatch hb), ⟨by simp [State.emptySlot], hs.timers.2⟩,
    hs.slip, hs.taps⟩

/-- A bid of an open and eligible port enters the slot against another port (R67). -/
theorem enterSlot (hs : s.LeadSound) {b : Bid} {y : Port} (hy : s.arbiter.leader = .port y) (hne : y ≠ b.bidder)
    (ho : (s.port b.bidder).isOpen = true) (he : (s.port b.bidder).eligible = true)
    (hr : (s.port b.bidder).rank = b.rank) : (s.enterSlot b y).LeadSound := by
  have hfill : (s.fillSlot b).LeadSound := by
    refine ⟨hs.leaderPort, hs.leaderTap, hs.follow, fun c hc => ?_, ⟨?_, hs.timers.2⟩, hs.slip, hs.taps⟩
    · cases hc; exact ⟨⟨y, hy, hne⟩, ho, he, hr⟩
    · by_cases hw : b.wait = 0 <;> simp [State.fillSlot, hw]
  exact leadSound_dependsOn.keep (post_touches _ _ _) hfill

theorem post (hs : s.LeadSound) (p : Port) (b : NoticeBody) : (s.post p b).LeadSound :=
  leadSound_dependsOn.keep (post_touches s p b) hs

/-- A frame's end restarts the silence timer where the leader's port has a limit (R69). -/
theorem restartSilence (hs : s.LeadSound) (p : Port) : (s.restartSilence p).LeadSound := by
  unfold State.restartSilence
  split
  · next hl =>
    refine ⟨hs.leaderPort, hs.leaderTap, hs.follow, hs.slot, ⟨hs.timers.1, ?_⟩, hs.slip, hs.taps⟩
    change (if _ then none else some _ : Option Time).isSome = true ↔ _
    simp only [hl, Leader.port.injEq, exists_eq_left']
    change _ ↔ (s.port p).silenceLimit ≠ 0
    split <;> simp_all
  · exact hs

theorem frameEnds (hs : s.LeadSound) (p : Port) (out : List Byte) : (s.frameEnds p out).LeadSound := by
  refine restartSilence (leadSound_dependsOn.carry s _ (fun b hb => ?_) hs) p
  have hport : ∀ q, ((s.setPort p { s.port p with dataOut := out }).port q).profile = (s.port q).profile := by
    intro q
    rw [State.setPort_port]
    split
    · next h => rw [h]; rfl
    · rfl
  simp only [List.mem_cons, List.not_mem_nil, or_false] at hb
  rcases hb with rfl | rfl | rfl | rfl | rfl
  · rfl
  · rfl
  · rfl
  · rfl
  · exact hport

theorem stopSilence (hs : s.LeadSound) (h : ∀ p, s.arbiter.leader ≠ .port p) : s.stopSilence.LeadSound :=
  ⟨hs.leaderPort, hs.leaderTap, hs.follow, hs.slot,
    ⟨hs.timers.1, by simp only [State.stopSilence]; exact ⟨by simp, fun ⟨p, hp, _⟩ => absurd hp (h p)⟩⟩, hs.slip, hs.taps⟩

/-- The taps' field with one tap replaced by a legal one that follows as before. -/
theorem setTap_tap {t : Fin 4} {v : Tap} (hs : s.LeadSound) (hv : v.Legal) (hf : v.follow = (s.tap t).follow) :
    (∀ k, ((s.setTap t v).tap k).follow = true ↔ s.arbiter.leader = .tap k) ∧ ∀ k, ((s.setTap t v).tap k).Legal := by
  constructor <;> intro k <;> rw [State.setTap_tap] <;> split
  · next h => subst h; rw [hf]; exact hs.follow _
  · exact hs.follow k
  · exact hv
  · exact hs.taps k

/-- A tap that keeps its state, or is STEADY, can replace the one that stands. -/
theorem setTap (hs : s.LeadSound) {t : Fin 4} {v : Tap} (hv : v.Legal) (hf : v.follow = (s.tap t).follow)
    (hst : s.arbiter.leader = .tap t → v.state = .steady) : (s.setTap t v).LeadSound := by
  obtain ⟨hfollow, htaps⟩ := hs.setTap_tap hv hf
  refine ⟨hs.leaderPort, fun k hk => ?_, hfollow, hs.slot, hs.timers, hs.slip, htaps⟩
  rw [State.setTap_tap]
  split
  · next h => subst h; exact hst hk
  · exact hs.leaderTap k hk

/-- A change of a tap, told where its state changes, loses the lead where it leaves STEADY (R72). -/
theorem changeTap (hs : s.LeadSound) {t : Fin 4} {v : Tap} (hv : v.Legal) (hf : v.follow = (s.tap t).follow)
    (c : TapCause) : (s.changeTap t v c).LeadSound := by
  obtain ⟨hfollow, htaps⟩ := hs.setTap_tap hv hf
  unfold State.changeTap
  dsimp only
  split
  · next hsame => exact hs.setTap hv hf fun hl => hsame ▸ hs.leaderTap t hl
  · let u := (s.setTap t v).postAll ((s.setTap t v).tapNotice t c)
    have htouch : Touches [.notices] (s.setTap t v) u := postAll_touches _ _
    have harb : u.arbiter = s.arbiter := htouch.arbiter
    have htap : ∀ k, u.tap k = (s.setTap t v).tap k :=
      fun k => congrArg (·[k]) (htouch .taps (by simp) : u.taps = (s.setTap t v).taps)
    split
    · next hlost =>
      have hleader : s.arbiter.leader = .tap t := harb ▸ hlost.1
      have hslot := hs.slot_none fun p => by simp [hleader]
      refine freewheels (s := u) (fun k => ?_) (fun k => ?_) (by rw [harb]; exact hslot)
        (by rw [harb]; exact hs.wait_none hslot) _
      · rw [htap, harb]; exact hfollow k
      · rw [htap]; exact htaps k
    · next hkeep =>
      refine leadSound_dependsOn.keep htouch (hs.setTap hv hf fun hl => ?_)
      by_contra hne
      exact hkeep ⟨harb.symm ▸ hl, hne⟩

theorem silenceExpires (hs : s.LeadSound) : s.silenceExpires.LeadSound := by
  unfold State.silenceExpires
  split
  · next b hb => exact hs.grantPending hb _
  · next hslot =>
    split
    · have h := nobody hs.follow hs.taps hslot (hs.wait_none hslot)
      exact leadSound_dependsOn.keep (postAll_touches _ _) (h.post _ _)
    · next hne => exact hs.stopSilence fun p hp => hne p hp

theorem waitExpires (hs : s.LeadSound) {b : Bid} (hb : s.arbiter.slot = some b) : (s.waitExpires b).LeadSound := by
  unfold State.waitExpires
  split
  · exact hs.grantPending hb _
  · exact hs.emptySlot.post _ _

theorem placeBid (hs : s.LeadSound) {b : Bid} (ho : (s.port b.bidder).isOpen = true)
    (he : (s.port b.bidder).eligible = true) (hr : (s.port b.bidder).rank = b.rank) (c : Bool) :
    (placeBid b c s).1.LeadSound := by
  unfold Machine.placeBid
  split
  · next y hy =>
    split
    · exact hs
    · next hne =>
      split
      · exact hs.enterSlot hy hne ho he hr
      · split
        · exact hs.enterSlot hy hne ho he hr
        · split
          · next z _ _ _ =>
            have htouch := post_touches s z.bidder (.lost .displaced (some b.bidder))
            have hprof := DeskPort.profile_eq (htouch .profiles (by simp) b.bidder)
            refine enterSlot (hs.post _ _) ?_ hne ?_ ?_ ?_
            · rw [htouch.arbiter]; exact hy
            · rw [hprof.1]; exact ho
            · rw [hprof.2.1]; exact he
            · rw [hprof.2.2.1]; exact hr
          · exact hs
  · exact grant hs.follow hs.taps ho he _
  · exact grant hs.follow hs.taps ho he _

theorem bidBody (hs : s.LeadSound) {p : Port} (ho : (s.port p).isOpen = true) (kind : Byte) (wait tempo : BitVec 16)
    (ref : Time) (glide : Byte) : (bidBody p kind wait tempo ref glide s).1.LeadSound := by
  have hbid : ∀ k, (s.makeBid p k wait tempo ref glide).1.bidder = p
      ∧ (s.makeBid p k wait tempo ref glide).1.rank = (s.port p).rank := fun k => by
    cases k <;> exact ⟨rfl, rfl⟩
  unfold Machine.bidBody
  split
  · exact hs
  · next k _ =>
    split
    · next he =>
      obtain ⟨hp, hr⟩ := hbid k
      exact hs.placeBid (by rwa [hp]) (by rwa [hp]) (by rw [hp, hr]) _
    · exact hs

/-- Opening a port takes nothing from the arbiter. -/
theorem openBody (hs : s.LeadSound) (p : Port) : (openBody p s).1.LeadSound := by
  unfold Machine.openBody
  split
  · exact hs
  · have hport : ∀ q, ((s.port q).isOpen = true → ((s.setPort p { s.port p with isOpen := true }).port q).isOpen = true)
        ∧ ((s.setPort p { s.port p with isOpen := true }).port q).eligible = (s.port q).eligible
        ∧ ((s.setPort p { s.port p with isOpen := true }).port q).rank = (s.port q).rank
        ∧ ((s.setPort p { s.port p with isOpen := true }).port q).silenceLimit = (s.port q).silenceLimit := by
      intro q
      rw [State.setPort_port]
      split
      · next h => subst h; simp
      · simp
    refine ⟨fun q h => ?_, hs.leaderTap, hs.follow, fun b hb => ?_, ⟨hs.timers.1, ?_⟩, hs.slip, hs.taps⟩
    · obtain ⟨h1, h2⟩ := hs.leaderPort q h
      exact ⟨(hport q).1 h1, by rw [(hport q).2.1]; exact h2⟩
    · obtain ⟨h1, h2, h3, h4⟩ := hs.slot b hb
      exact ⟨h1, (hport _).1 h2, by rw [(hport _).2.1]; exact h3, by rw [(hport _).2.2.1]; exact h4⟩
    · simp only [(hport _).2.2.2]
      exact hs.timers.2

/-- A profile that is not locked is taken (R57, R171). -/
theorem takeProfile (hs : s.LeadSound) {p : Port} {e : Bool} {r l : Nat} {a : Bool}
    (hlock : s.profileLocked p e r = false) : (s.takeProfile p e r l a).LeadSound := by
  let d : DeskPort := { s.port p with eligible := e, rank := r, silenceLimit := l, attention := a }
  have hself : (s.setPort p d).port p = d := State.setPort_port_self _ _ _
  have hother : ∀ q, q ≠ p → (s.setPort p d).port q = s.port q := fun q => State.setPort_port_other _ _ _ _
  have hkeeps : s.leads p = true ∨ s.bids p = true → ((s.port p).eligible = true → e = true) ∧ (s.port p).rank = r := by
    intro h
    simp only [State.profileLocked, Bool.and_eq_false_iff, Bool.or_eq_false_iff, Bool.not_eq_false',
      decide_eq_false_iff_not, not_not] at hlock
    obtain ⟨h1, h2⟩ | ⟨h1, h2⟩ := hlock
    · simp [h1, h2] at h
    · exact ⟨fun ht => h1.resolve_left (by simp [ht]), h2.symm⟩
  have htouch : Touches [.notices] ((s.setPort p d).restartSilence p) (s.takeProfile p e r l a) :=
    refreshAttn_touches _ p
  refine leadSound_dependsOn.keep htouch ?_
  have hleader : ∀ q, s.arbiter.leader = .port q →
      ((s.setPort p d).port q).isOpen = true ∧ ((s.setPort p d).port q).eligible = true := by
    intro q hq
    obtain ⟨h1, h2⟩ := hs.leaderPort q hq
    by_cases h : q = p
    · subst h
      rw [hself]
      exact ⟨h1, (hkeeps (.inl (by simp [State.leads, hq]))).1 h2⟩
    · rw [hother q h]; exact ⟨h1, h2⟩
  have hslot : State.SlotLegal (s.setPort p d) := by
    intro b hb
    obtain ⟨h1, h2, h3, h4⟩ := hs.slot b hb
    by_cases h : b.bidder = p
    · have hk := hkeeps (.inr (by simp [State.bids, show s.arbiter.slot = some b from hb, h]))
      rw [h] at h1 h2 h3 h4 ⊢
      rw [hself]
      exact ⟨h1, h2, hk.1 h3, hk.2.symm.trans h4⟩
    · rw [hother _ h]; exact ⟨h1, h2, h3, h4⟩
  by_cases hl : s.arbiter.leader = .port p
  · have hset : (s.setPort p d).arbiter.leader = .port p := hl
    unfold State.restartSilence
    rw [if_pos hset, hself]
    refine ⟨hleader, hs.leaderTap, hs.follow, hslot, ⟨hs.timers.1, ?_⟩, hs.slip, hs.taps⟩
    change (if l = 0 then none else some _ : Option Time).isSome = true ↔ ∃ q, s.arbiter.leader = .port q ∧
      ((s.setPort p d).port q).silenceLimit ≠ 0
    simp only [hl, Leader.port.injEq, exists_eq_left', hself]
    change _ ↔ l ≠ 0
    split <;> simp_all
  · have hset : ¬ (s.setPort p d).arbiter.leader = .port p := hl
    unfold State.restartSilence
    rw [if_neg hset]
    refine ⟨hleader, hs.leaderTap, hs.follow, hslot, ⟨hs.timers.1, hs.timers.2.trans ?_⟩, hs.slip, hs.taps⟩
    refine exists_congr fun q => and_congr_right fun hq => ?_
    have hq : s.arbiter.leader = .port q := hq
    rw [hother q fun h => hl (by rw [hq, h])]

theorem setProfile (hs : s.LeadSound) (p : Port) (e r l a : Byte) : (setProfileBody p e r l a s).1.LeadSound := by
  unfold setProfileBody
  split
  · split
    · exact hs
    · next hlock => exact hs.takeProfile (by simpa using hlock)
  · exact hs

/-- A close takes the lead or the bid from the port, the arbiter's part coming after the port is CLOSED (R170). -/
theorem closePort (hs : s.LeadSound) (p : Port) : (s.closePort p).LeadSound := by
  refine leadSound_dependsOn.keep (closeRest_touches _ p) ?_
  have hother : ∀ q, q ≠ p → (s.markClosed p).port q = s.port q := fun q => State.setPort_port_other _ _ _ _
  have hlimit : ∀ q, ((s.markClosed p).port q).silenceLimit = (s.port q).silenceLimit := by
    intro q
    rw [State.markClosed, State.setPort_port]
    split
    · next h => rw [h]
    · rfl
  have hfollow : ∀ t, ((s.markClosed p).tap t).follow = true ↔ (s.markClosed p).arbiter.leader = .tap t := hs.follow
  have htaps : ∀ t, ((s.markClosed p).tap t).Legal := hs.taps
  have hbid : ∀ b, s.arbiter.slot = some b → b.bidder ≠ p →
      (∃ y, s.arbiter.leader = .port y ∧ y ≠ b.bidder) ∧ ((s.markClosed p).port b.bidder).isOpen = true
        ∧ ((s.markClosed p).port b.bidder).eligible = true ∧ ((s.markClosed p).port b.bidder).rank = b.rank := by
    intro b hb hne
    rw [hother _ hne]
    exact hs.slot b hb
  have hstands : s.arbiter.leader ≠ .port p → ∀ q, s.arbiter.leader = .port q →
      ((s.markClosed p).port q).isOpen = true ∧ ((s.markClosed p).port q).eligible = true := by
    intro hl q hq
    rw [hother q fun h => hl (by rw [hq, h])]
    exact hs.leaderPort q hq
  have hsilence : s.arbiter.silenceExpiry.isSome = true ↔
      ∃ q, s.arbiter.leader = .port q ∧ ((s.markClosed p).port q).silenceLimit ≠ 0 := by
    simp only [hlimit]
    exact hs.timers.2
  unfold State.arbiterCloses
  split
  · next hleads =>
    have hleads : s.arbiter.leader = .port p := of_decide_eq_true hleads
    split
    · next b hb =>
      have hb : s.arbiter.slot = some b := hb
      obtain ⟨⟨y, hy, hyb⟩, -⟩ := hs.slot b hb
      have hne : b.bidder ≠ p := by
        rw [hleads] at hy
        cases hy
        exact hyb.symm
      obtain ⟨-, ho, he, -⟩ := hbid b hb hne
      exact grant hfollow htaps ho he _
    · next hslot =>
      have hslot : s.arbiter.slot = none := hslot
      exact freewheels hfollow htaps hslot (hs.wait_none hslot) _
  · next hnot =>
    have hnot : s.arbiter.leader ≠ .port p := fun h => hnot (decide_eq_true h)
    split
    · refine ⟨hstands hnot, hs.leaderTap, hs.follow, fun b hb => (nomatch hb), ⟨by simp [State.emptySlot], hsilence⟩,
        hs.slip, hs.taps⟩
    · next hbids =>
      refine ⟨hstands hnot, hs.leaderTap, hs.follow, fun b hb => hbid b hb fun h => hbids ?_, ⟨hs.timers.1, hsilence⟩,
        hs.slip, hs.taps⟩
      have hb : s.arbiter.slot = some b := hb
      change s.bids p = true
      simp [State.bids, hb, h]

theorem handToTap (hs : s.LeadSound) (tap : Byte) : (handToTapBody tap s).1.LeadSound := by
  unfold handToTapBody
  split
  · exact hs
  · next t _ =>
    split
    · exact hs
    · next hslot =>
      have hslot : s.arbiter.slot = none := by simpa using hslot
      split
      · next hst =>
        refine ⟨fun p h => (nomatch h), fun k h => ?_, setLeader_follow hs.follow (.tap t), fun b hb => ?_, ⟨?_, ?_⟩,
          fun h => (nomatch h), setLeader_taps hs.taps _⟩
        · cases h
          exact (setLeader_tap_state s _ t).trans hst
        · exact absurd (hslot.symm.trans hb) (by simp)
        · change s.arbiter.waitExpiry.isSome = true ↔ ∃ b, s.arbiter.slot = some b ∧ _
          simp [hslot, hs.wait_none hslot]
        · simp [State.stopSilence, State.setLeader, State.clearSlip]
      · exact hs

theorem setTapBody (hs : s.LeadSound) (tap k : Byte) (o : BitVec 32) : (setTapBody tap k o s).1.LeadSound := by
  unfold Machine.setTapBody
  split
  · next t n _ hn =>
    obtain ⟨hlo, hhi, -⟩ := clampInt_spec (lo := -(Config.offsetMax : Int)) (hi := (Config.offsetMax : Int))
      (v := o.toInt) (by simp [Config.offsetMax])
    have ho : (clampInt (-(Config.offsetMax : Int)) (Config.offsetMax : Int) o.toInt).1.natAbs ≤ 250000 := by
      simp only [Config.offsetMax] at hlo hhi ⊢
      omega
    dsimp only
    split
    · exact hs.setTap ((hs.taps t).moveOffset ho _) rfl fun hl => hs.leaderTap t hl
    · exact hs.changeTap (Tap.Legal.configure (readEdgesPerBeat_legal hn) ho) rfl _
  · exact hs

theorem tapClear (hs : s.LeadSound) (tap : Byte) : (tapClearBody tap s).1.LeadSound := by
  unfold tapClearBody
  split
  · exact hs
  · next t _ =>
    split
    · exact hs.setTap ((hs.taps t).withDebounce none) rfl fun hl => hs.leaderTap t hl
    · exact hs.changeTap ((hs.taps t).withDebounce none).emptied rfl _

theorem reset {u : State} (h : EventDoes s u .reset) : u.LeadSound := by
  subst h
  refine ⟨?_, ?_, ?_, ?_, ⟨?_, ?_⟩, ?_, ?_⟩ <;>
    simp [State.reset, Arbiter.reset, State.tap, Tap.reset, State.SlotLegal, Engine.reset, Tap.Legal, tapStateOf,
      measuredIntervalOf]

end State.LeadSound

/-! ### The slip while nobody leads -/

theorem State.reachStop_slip {s : State} (h : s.engine.slip = 0) : s.reachStop.engine.slip = 0 := by
  obtain hq | ⟨q, r, hq⟩ := List.eq_nil_or_concat s.queue
  · rw [State.reachStop_of_empty hq]
    simp [State.toStopped, State.enter, State.clearSlip]
  · have hne : (markNewest s.playersStop.queue).getLast? ≠ none := by
      change (markNewest s.queue).getLast? ≠ none
      rw [hq, List.concat_eq_append, markNewest_concat]
      simp
    unfold State.reachStop
    dsimp only
    split
    · simpa [State.enter, State.tellLast, State.playersStop] using h
    · exact absurd ‹_› hne

theorem State.fireCues_slip (s : State) : s.fireCues.state.engine.slip = s.engine.slip := by
  refine State.fireCues_keeps (P := fun u => u.engine.slip = s.engine.slip) rfl fun f c _ hf => ?_
  have hf : (f.remove c).state.engine.slip = s.engine.slip := hf
  obtain e | ⟨i, row, tap, -, e⟩ | ⟨i, row, tap, -, -, -, e⟩ | ⟨v, g, -, e⟩ | ⟨m, -, e⟩ :=
    (f.remove c).act_cases c <;> rw [e]
  · exact hf
  · exact hf
  · exact hf
  · simp only [Engine.startTempo]
    split <;> exact hf
  · exact hf

theorem makeRecord_slip {f : Firing} (h : f.state.engine.slip = 0) (launch : Bool) :
    (makeRecord launch f).engine.slip = 0 := by
  have hm : f.state.makingEngine.slip = 0 := by
    unfold State.makingEngine Engine.applyMeter
    (repeat' split) <;> exact h
  have hp := f.state.makingEngine.slipPortion_eq
  rw [makeRecord_engine, Engine.afterRecord_slip]
  omega

theorem stopStep_slip {f : Firing} (h : f.state.engine.slip = 0) : (stopStep f).engine.slip = 0 := by
  have he : f.beforeStop.engine = f.state.engine := Firing.beforeStop_touches f .engine (by simp)
  rw [stopStep_eq]
  exact State.reachStop_slip (by rw [he, h])

theorem State.generate_slip {s : State} (h : s.engine.slip = 0) : s.generate.engine.slip = 0 := by
  have hf : s.fireCues.state.engine.slip = 0 := by rw [State.fireCues_slip, h]
  obtain ⟨-, e⟩ | ⟨-, ⟨-, e⟩ | ⟨-, e⟩⟩ := s.generate_cases <;> rw [e]
  · exact State.reachStop_slip h
  · exact stopStep_slip hf
  · exact makeRecord_slip hf _

theorem State.launch_slip {s : State} (h : s.engine.slip = 0) : s.launch.engine.slip = 0 := by
  have hf : s.fireCues.state.engine.slip = 0 := by rw [State.fireCues_slip, h]
  obtain ⟨-, e⟩ | ⟨-, ⟨-, e⟩ | ⟨-, e⟩⟩ := s.launch_cases <;> rw [e]
  · exact State.reachStop_slip h
  · exact stopStep_slip hf
  · have he : s.fireCues.state.setLaunchN.engine = s.fireCues.state.engine := setLaunchN_touches _ .engine (by simp)
    have hr := makeRecord_slip (f := { s.fireCues with state := s.fireCues.state.setLaunchN })
      (by dsimp only; rw [he, hf]) true
    simpa [State.enter] using hr

/-! ### Commands and events -/

/-- A command's body keeps the arbiter and the taps. -/
theorem State.LeadSound.body (i : Instr) :
    ForBody i fun p c b => ∀ s, ((s.port p).isOpen = true ∨ openExempt c = true) →
      s.rstLow = false → s.LeadSound → (b s).1.LeadSound := by
  cases i with
  | openPort p => exact fun s _ _ hs => hs.openBody p
  | closePort p => exact fun s _ _ hs => hs.closePort p
  | setProfile p e r l a => exact fun s _ _ hs => hs.setProfile p e r l a
  | setTempo p c g =>
    refine fun s _ _ hs => asLeader_keeps hs fun hl => ?_
    exact hs.of_touches (touches_engine s _) fun h => by simp [hl] at h
  | nudge p d =>
    refine fun s _ _ hs => asLeader_keeps hs fun hl => ?_
    exact hs.of_touches (nudgeBody_touches s d) fun h => by simp [hl] at h
  | setMeter p m =>
    refine fun s _ _ hs => asLeader_keeps hs fun hl => ?_
    exact hs.of_touches (setMeterBody_touches s m) fun h => by simp [hl] at h
  | stop p q =>
    refine fun s _ _ hs => asLeader_keeps hs fun hl => ?_
    exact hs.of_touches (stopBody_touches s q) fun h => by simp [hl] at h
  | bid p k w c r g =>
    refine fun s ho _ hs => hs.bidBody ?_ k w c r g
    simpa [openExempt] using ho
  | yieldLead p =>
    refine fun s _ _ hs => asLeader_keeps hs fun _ => ?_
    unfold yieldBody
    split
    · exact hs
    · next b hb => exact hs.grantPending hb _
  | release p =>
    refine fun s _ _ hs => asLeader_keeps hs fun _ => ?_
    unfold releaseBody
    dsimp only
    split
    · next b hb => exact hs.grantPending hb _
    · next hslot => exact State.LeadSound.freewheels hs.follow hs.taps hslot (hs.wait_none hslot) _
  | refuse p =>
    refine fun s _ _ hs => asLeader_keeps hs fun _ => ?_
    unfold refuseBody
    split
    · exact hs
    · exact hs.emptySlot.post _ _
  | withdraw p =>
    intro s _ _ hs
    unfold withdrawBody
    split
    · exact hs.emptySlot
    · exact hs
  | handToTap p tap => exact fun s _ _ hs => asLeader_keeps hs fun _ => hs.handToTap tap
  | setTap p tap k o => exact fun s _ _ hs => hs.setTapBody tap k o
  | tapClear p tap => exact fun s _ _ hs => hs.tapClear tap
  | _ => exact ForBody.of_dependsOn leadSound_dependsOn fun _ hs => hs

/-- An event keeps the arbiter and the taps. -/
theorem State.LeadSound.event {i : Instr} {s t : State} (h : EventDoes s t i) (hs : s.LeadSound) : t.LeadSound := by
  have hstopped : ∀ u : State, u.LeadSound → u.toStopped.LeadSound := fun u hu =>
    hu.of_touches (toStopped_touches u) fun _ _ => by simp [State.toStopped, State.enter, State.clearSlip]
  cases i with
  | reset => exact State.LeadSound.reset h
  | waitTimerExpiry => obtain ⟨b, hb, -, rfl⟩ := h; exact hs.waitExpires hb
  | silenceTimerExpiry => obtain ⟨-, rfl⟩ := h; exact hs.silenceExpires
  | tapEdge k =>
    have hv := (hs.taps k).edge s.houseTime
    have hf := Tap.edge_follow (tap := s.tap k) s.houseTime
    obtain ⟨-, ⟨hd, rfl⟩ | ⟨-, rfl⟩ | ⟨-, rfl⟩ | ⟨-, hfollow, -, rfl⟩⟩ := h
    · exact hs.setTap hv hf fun hl => (Tap.edge_discarded _ hd).trans (hs.leaderTap k hl)
    · exact hs.changeTap hv hf _
    · exact hs.changeTap hv hf _
    · have hc := hs.changeTap hv hf .edge
      refine hc.of_touches (lockEdge_touches _ _ _) fun h => ?_
      rw [(hc.follow k).1 hfollow] at h
      cases h
  | tapSilenceDeadline k => obtain ⟨-, rfl⟩ := h; exact hs.changeTap (hs.taps k).emptied rfl _
  | launchStep =>
    obtain ⟨-, rfl⟩ := h
    exact hs.of_touches (launch_touches s) fun _ hz => State.launch_slip hz
  | generatorStep =>
    obtain ⟨-, rfl⟩ := h
    exact hs.of_touches (generate_touches s) fun _ hz => State.generate_slip hz
  | recordRetires =>
    obtain ⟨-, rfl⟩ := h
    have hq : ∀ q, State.LeadSound { s with queue := q } := fun q => leadSound_dependsOn.keep (touches_queue s q) hs
    unfold State.retire
    split
    · exact hs
    · split
      · exact hstopped _ (hq [])
      · exact hq _
  | drainingEnd =>
    obtain ⟨-, rfl⟩ := h
    exact hstopped _ (leadSound_dependsOn.keep (touches_queue s []) hs)
  | _ => exact leadSound_dependsOn.event h hs

/-- Settles O54: every change of the leader field is a grant, a loss or a hand-over, a bid enters the slot against a
leading port alone, and a frame's end restarts the silence timer as the limit says. -/
theorem stepsKeepTheLeadAndTheTapsLegal : Obligations.StepsKeepTheLeadAndTheTapsLegal := by
  simp only [Obligations.StepsKeepTheLeadAndTheTapsLegal, leadSound_iff]
  refine step_keeps (fun s t h hs => leadSound_dependsOn.keep h hs (by simp)) (fun _ hs => hs)
    (fun s hs _ _ => leadSound_dependsOn.keep (bs := [.time]) ?_ hs) ?_
  · rintro ⟨⟩ <;> simp [Block.Same, State.port]
  · exact exec_keeps (fun _ hs => hs) (fun p out s hs => hs.frameEnds p out)
      (fun p b x s hs => leadSound_dependsOn.keep (postAt_touches s p b x) hs)
      (fun p code rest s hs => leadSound_dependsOn.keep (accept_touches_link s p code rest) (hs.frameEnds p _))
      (fun p c a s hs => leadSound_dependsOn.keep (answered_touches s p c a) hs) State.LeadSound.body
      (fun i s t h hs => hs.event h)

end Sys2Proof.Machine

/-! PROOF. Ports, claims and notices (chapters 8 to 10): what only gives notices to ports keeps the notice queues as
they are to be, and the commands of the ports keep the rest. -/

namespace Sys2Proof.Machine

/-! ### Giving notices -/

/-- From `s` to `t` the notices change by being given to ports alone: what the giving of a notice keeps of them
holds in `t` when it holds in `s`. -/
structure Delivers (s t : State) : Prop where
  keep : ∀ P : State → Prop, DependsOn [.profiles, .notices] P → (∀ u p n, P u → P (u.give p n)) → P s → P t

namespace Delivers

theorem refl (s : State) : Delivers s s := ⟨fun _ _ _ h => h⟩

theorem trans {s t u : State} (h : Delivers s t) (h' : Delivers t u) : Delivers s u :=
  ⟨fun P hP hg hs => h'.keep P hP hg (h.keep P hP hg hs)⟩

theorem of_touches {bs : List Block} {s t : State} (h : Touches bs s t)
    (hb : ∀ b ∈ [Block.profiles, .notices], b ∉ bs := by simp) : Delivers s t :=
  ⟨fun _ hP _ hs => hP.keep h hs hb⟩

theorem foldl {α : Type} {f : State → α → State} (hf : ∀ s a, Delivers s (f s a)) (l : List α) (s : State) :
    Delivers s (l.foldl f s) := by
  induction l generalizing s with
  | nil => exact refl s
  | cons a l ih => exact (hf s a).trans (ih (f s a))

section Operations

variable (s : State)

theorem give (p : Port) (n : Notice) : Delivers s (s.give p n) := ⟨fun _ _ hg hs => hg s p n hs⟩

theorem postAt (p : Port) (b : NoticeBody) (x : Option Position) : Delivers s (s.postAt p b x) := by
  unfold State.postAt
  split
  · exact give s p _
  · exact refl s

theorem post (p : Port) (b : NoticeBody) : Delivers s (s.post p b) := postAt s p b _

theorem postAll (b : NoticeBody) : Delivers s (s.postAll b) := foldl (fun s p => post s p b) _ s

theorem enter (st : TransportState) : Delivers s (s.enter st) := (of_touches (touches_state s st)).trans (postAll _ _)

theorem toStopped : Delivers s s.toStopped := by
  refine trans (of_touches (bs := [.run, .engine, .lastBeat]) ?_) (enter _ .stopped)
  rintro ⟨⟩ <;> simp [Block.Same, State.port, State.clearSlip]

theorem reachStop : Delivers s s.reachStop := by
  have hplayers : Delivers s s.playersStop := of_touches (touches_players s _)
  unfold State.reachStop
  dsimp only
  refine hplayers.trans ?_
  split
  · refine trans (of_touches (bs := [.run, .queue]) ?_) ((of_touches (touches_lanes _ _)).trans (enter _ _))
    rintro ⟨⟩ <;> simp [Block.Same, State.port]
  · exact toStopped _

theorem setStop (x : Position) : Delivers s (s.setStop x) := by
  unfold State.setStop
  split
  · exact reachStop s
  · dsimp only
    split
    · exact (of_touches (touches_stopPoint s (some x))).trans (enter _ _)
    · exact of_touches (touches_stopPoint s (some x))

theorem dropAllCues : Delivers s s.dropAllCues :=
  (foldl (fun s (c : Cue) => post s c.owner _) s.cues s).trans (of_touches (touches_cues _ []))

theorem drained : Delivers s s.drained := (of_touches (touches_queue s [])).trans (toStopped _)

theorem retire : Delivers s s.retire := by
  unfold State.retire
  split
  · exact refl s
  · split
    · exact drained s
    · exact of_touches (touches_queue s _)

theorem giveEntry (r : PulseRecord) (e : SoundEntry) : Delivers s (s.giveEntry r e) := by
  unfold State.giveEntry
  split
  · exact foldl (fun s b => give s e.port _) e.bodies s
  · exact refl s

theorem sound (r : PulseRecord) : Delivers s (s.sound r) :=
  (of_touches (touches_queue s _)).trans (foldl (fun s e => giveEntry s r e) r.sounds _)

theorem postGiven (made : Bool) (x : Position) (g : List (Port × NoticeBody)) : Delivers s (s.postGiven made x g) :=
  foldl (fun s a => by
    split
    · exact refl s
    · exact postAt s _ _ _) g s

theorem fireCues : Delivers s s.fireCues.state := of_touches (fireCues_touches s)

theorem makeRecord (launch : Bool) (f : Firing) : Delivers f.state (makeRecord launch f) := by
  have hwrap : ∀ (u : State) (x : Position) (m : Nat), Delivers u (u.wrapDrop x m) := fun u x m => by
    unfold State.wrapDrop
    split
    · exact dropAllCues u
    · exact refl u
  exact (((((of_touches (applyMeter_touches _)).trans (postGiven _ _ _ _)).trans (of_touches (touches_players _ _))).trans
    (of_touches (append_touches _ _))).trans (of_touches (stepOn_touches _))).trans (hwrap _ _ _)

theorem stopStep (f : Firing) : Delivers f.state (stopStep f) :=
  ((of_touches (touches_lanes f.state _)).trans (postGiven _ _ _ _)).trans (reachStop _)

theorem generate : Delivers s s.generate := by
  obtain ⟨-, e⟩ | ⟨-, ⟨-, e⟩ | ⟨-, e⟩⟩ := s.generate_cases <;> rw [e]
  · exact reachStop s
  · exact (fireCues s).trans (stopStep _)
  · exact (fireCues s).trans (makeRecord _ _)

theorem launch : Delivers s s.launch := by
  obtain ⟨-, e⟩ | ⟨-, ⟨-, e⟩ | ⟨-, e⟩⟩ := s.launch_cases <;> rw [e]
  · exact reachStop s
  · exact (fireCues s).trans (stopStep _)
  · exact (((fireCues s).trans (of_touches (setLaunchN_touches _))).trans
      (makeRecord true { s.fireCues with state := s.fireCues.state.setLaunchN })).trans (enter _ _)

theorem freewheels (r : FreewheelReason) : Delivers s (s.freewheels r) :=
  ((of_touches (setLeader_touches s _)).trans (of_touches (stopSilence_touches _))).trans (postAll _ _)

theorem grant (b : Bid) (r : Route) : Delivers s (s.grant b r) := by
  have hlost : ∀ (u : State) (l : Leader), Delivers u (u.grantLost l b r) := fun u l => by
    unfold State.grantLost
    split
    · exact post u _ _
    · exact post u _ _
    · exact refl u
  exact ((((((of_touches (setLeader_touches s _)).trans (of_touches (emptySlot_touches _))).trans
    (of_touches (stopSilence_touches _))).trans (of_touches (restartSilence_touches _ _))).trans
    (of_touches (grantEngine_touches _ b r))).trans (hlost _ _)).trans (post _ _ _)

theorem enterSlot (b : Bid) (y : Port) : Delivers s (s.enterSlot b y) :=
  (of_touches (fillSlot_touches s b)).trans (post _ _ _)

theorem changeTap (t : Fin 4) (v : Tap) (c : TapCause) : Delivers s (s.changeTap t v c) := by
  have hset : Delivers s (s.setTap t v) := of_touches (touches_taps s _)
  unfold State.changeTap
  dsimp only
  split
  · exact hset
  · split
    · exact (hset.trans (postAll _ _)).trans (freewheels _ _)
    · exact hset.trans (postAll _ _)

theorem waitExpires (b : Bid) : Delivers s (s.waitExpires b) := by
  unfold State.waitExpires
  split
  · exact grant s _ _
  · exact (of_touches (emptySlot_touches s)).trans (post _ _ _)

theorem silenceExpires : Delivers s s.silenceExpires := by
  unfold State.silenceExpires
  split
  · exact grant s _ _
  · split
    · exact (((of_touches (setLeader_touches s _)).trans (of_touches (stopSilence_touches _))).trans
        (post _ _ _)).trans (postAll _ _)
    · exact of_touches (stopSilence_touches s)

theorem arbiterCloses (p : Port) : Delivers s (s.arbiterCloses p) := by
  unfold State.arbiterCloses
  split
  · split
    · exact grant s _ _
    · exact freewheels s _
  · split
    · exact of_touches (emptySlot_touches s)
    · exact refl s

theorem startBody (t : Time) : Delivers s (startBody t s).1 := by
  unfold Machine.startBody
  split
  · exact (of_touches (withLaunch_touches s _)).trans (enter _ _)
  · exact of_touches (withLaunch_touches s _)
  · exact refl s
  · exact (of_touches (touches_stopPoint s none)).trans (enter _ _)
  · exact refl s

theorem stopBody (q : Byte) : Delivers s (stopBody q s).1 := by
  obtain e | ⟨-, e⟩ | ⟨x, -, e⟩ := stopBody_cases q s <;> rw [e]
  · exact refl s
  · exact toStopped s
  · exact setStop s x

theorem locateBody (bar : BitVec 16) (beat : Byte) : Delivers s (locateBody bar beat s).1 := by
  obtain e | ⟨-, e⟩ := locateBody_cases bar beat s <;> rw [e]
  · exact refl s
  · exact (of_touches (touches_gen s _)).trans (dropAllCues _)

theorem gridResetBody : Delivers s (gridResetBody s).1 := by
  obtain e | ⟨-, e⟩ := gridResetBody_cases s <;> rw [e]
  · exact refl s
  · exact ((of_touches (touches_gen s _)).trans (dropAllCues _)).trans (of_touches (touches_players _ _))

theorem placeBid (b : Bid) (c : Bool) : Delivers s (placeBid b c s).1 := by
  unfold Machine.placeBid
  split
  · split
    · exact refl s
    · split
      · exact enterSlot s _ _
      · split
        · exact enterSlot s _ _
        · split
          · exact (post s _ _).trans (enterSlot _ _ _)
          · exact refl s
  · exact grant s _ _
  · exact grant s _ _

theorem bidBody (p : Port) (kind : Byte) (wait tempo : BitVec 16) (ref : Time) (glide : Byte) :
    Delivers s (bidBody p kind wait tempo ref glide s).1 := by
  unfold Machine.bidBody
  split
  · exact refl s
  · split
    · exact placeBid s _ _
    · exact refl s

theorem yieldBody : Delivers s (yieldBody s).1 := by
  unfold Machine.yieldBody
  split
  · exact refl s
  · exact grant s _ _

theorem releaseBody : Delivers s (releaseBody s).1 := by
  unfold Machine.releaseBody
  dsimp only
  split
  · exact grant s _ _
  · exact freewheels s _

theorem refuseBody (p : Port) : Delivers s (refuseBody p s).1 := by
  unfold Machine.refuseBody
  split
  · exact refl s
  · exact (of_touches (emptySlot_touches s)).trans (post _ _ _)

theorem setTapBody (tap k : Byte) (o : BitVec 32) : Delivers s (setTapBody tap k o s).1 := by
  unfold Machine.setTapBody
  split
  · dsimp only
    split
    · exact of_touches (touches_taps s _)
    · exact changeTap s _ _ _
  · exact refl s

theorem tapClearBody (tap : Byte) : Delivers s (tapClearBody tap s).1 := by
  unfold Machine.tapClearBody
  split
  · exact refl s
  · split
    · exact of_touches (touches_taps s _)
    · exact changeTap s _ _ _

/-- What a body delivers, it delivers behind the check for leadership. -/
theorem asLeader {p : Port} {body : State → State × Answer} (h : Delivers s (body s).1) :
    Delivers s (asLeader p body s).1 := by
  obtain e | ⟨-, e⟩ := asLeader_cases p body s <;> rw [e]
  · exact refl s
  · exact h

end Operations

end Delivers

/-- A command of a port that sets the port's profile or empties its queue, and RESET: the rows that do more to the
notices than giving them. -/
def Instr.setsNotices : Instr → Bool
  | .openPort .. | .closePort .. | .setProfile .. | .setNotices .. | .readNotices .. | .reset => true
  | _ => false

theorem ForBody.delivers_of_touched {i : Instr}
    (h : (∀ b ∈ [Block.profiles, .notices], b ∉ touched i) ∨ commandBody i = none := by simp [commandBody]) :
    ForBody i fun _ _ b => ∀ s, Delivers s (b s).1 :=
  ForBody.intro fun p c b hb s => .of_touches ((body_touches i).elim hb s)
    (h.resolve_right fun hn => by simp [hn] at hb)

/-- Every other command's body delivers notices and no more. -/
theorem body_delivers (i : Instr) (hi : Instr.setsNotices i = false) :
    ForBody i fun _ _ b => ∀ s, Delivers s (b s).1 := by
  cases i with
  | openPort p | closePort p | setProfile p e r l a | setNotices p k t | readNotices p => cases hi
  | start p t => exact fun s => (Delivers.startBody s t).asLeader
  | stop p q => exact fun s => (Delivers.stopBody s q).asLeader
  | locate p bar beat => exact fun s => (Delivers.locateBody s bar beat).asLeader
  | gridReset p => exact fun s => (Delivers.gridResetBody s).asLeader
  | bid p k w c r g => exact fun s => Delivers.bidBody s p k w c r g
  | yieldLead p => exact fun s => (Delivers.yieldBody s).asLeader
  | release p => exact fun s => (Delivers.releaseBody s).asLeader
  | refuse p => exact fun s => (Delivers.refuseBody s p).asLeader
  | setTap p t k o => exact fun s => Delivers.setTapBody s t k o
  | tapClear p t => exact fun s => Delivers.tapClearBody s t
  | _ => exact ForBody.delivers_of_touched

/-- Every event but RESET delivers notices and no more. -/
theorem event_delivers {i : Instr} {s t : State} (h : EventDoes s t i) (hi : Instr.setsNotices i = false) :
    Delivers s t := by
  cases i with
  | reset => cases hi
  | waitTimerExpiry => obtain ⟨b, -, -, rfl⟩ := h; exact .waitExpires s b
  | silenceTimerExpiry => obtain ⟨-, rfl⟩ := h; exact .silenceExpires s
  | tapEdge k =>
    obtain ⟨-, ⟨-, rfl⟩ | ⟨-, rfl⟩ | ⟨-, rfl⟩ | ⟨-, -, -, rfl⟩⟩ := h
    · exact .of_touches (touches_taps s _)
    · exact .changeTap s _ _ _
    · exact .changeTap s _ _ _
    · exact (Delivers.changeTap s _ _ _).trans (.of_touches (lockEdge_touches _ _ _))
  | tapSilenceDeadline k => obtain ⟨-, rfl⟩ := h; exact .changeTap s _ _ _
  | launchStep => obtain ⟨-, rfl⟩ := h; exact .launch s
  | generatorStep => obtain ⟨-, rfl⟩ := h; exact .generate s
  | recordSounds => obtain ⟨r, -, rfl⟩ := h; exact .sound s r
  | recordRetires => obtain ⟨-, rfl⟩ := h; exact .retire s
  | drainingEnd => obtain ⟨-, rfl⟩ := h; exact .drained s
  | _ => exact ⟨fun P hP _ hs => hP.event h hs⟩

end Sys2Proof.Machine

namespace Sys2Proof.Machine

/-! ### The notice queues -/

/-- A notice queue of at most 16 records, HANDOVER_REQUEST enabled and no kind beyond the eleven. -/
structure NoticeQueue.Sound (q : NoticeQueue) : Prop where
  depth : q.queue.length ≤ 16
  handover : q.enabled.getLsbD 1 = true
  kinds : q.enabled &&& 0x0FFE = q.enabled

/-- The notice unit's part for port `p` is as it is to be. -/
structure State.NoticesSound (s : State) (p : Port) : Prop where
  queue : (s.noticeQueue p).Sound
  closed : (s.port p).isOpen = false → (s.noticeQueue p).queue = [] ∧ (s.noticeQueue p).overflowed = false
  attn : (s.port p).attn = s.attnLevel p

theorem State.attnLevel_iff (s : State) (p : Port) :
    s.attnLevel p = true ↔ (s.noticeQueue p).queue ≠ [] ∧ (s.port p).attention = true := by
  simp [State.attnLevel]

theorem noticeInv_iff (s : State) : s.NoticeInv ↔ ∀ p, s.NoticesSound p := by
  refine forall_congr' fun p => ?_
  constructor
  · rintro ⟨h1, h2, h3, h4, h5⟩
    exact ⟨⟨h1, h2, h3⟩, h4, Bool.eq_iff_iff.2 (h5.trans (s.attnLevel_iff p).symm)⟩
  · rintro ⟨⟨h1, h2, h3⟩, h4, h5⟩
    exact ⟨h1, h2, h3, h4, by rw [h5]; exact s.attnLevel_iff p⟩

theorem noticesSound_dependsOn (p : Port) : DependsOn [.profiles, .notices] fun s => s.NoticesSound p := by
  refine ⟨fun s t h ⟨h1, h2, h3⟩ => ?_⟩
  obtain ⟨ho, -, -, -, ha⟩ := DeskPort.profile_eq (h .profiles (by simp) p)
  obtain ⟨hn, hattn⟩ : t.notices = s.notices ∧ ∀ p, (t.port p).attn = (s.port p).attn := h .notices (by simp)
  have hq : t.noticeQueue p = s.noticeQueue p := congrArg (·[p.idx]) hn
  exact ⟨by rw [hq]; exact h1, by rw [hq, ho]; exact h2, by rw [hattn, h3, State.attnLevel, State.attnLevel, hq, ha]⟩

theorem queueSound_dependsOn_notices (p : Port) :
    DependsOn [.profiles, .notices] fun s => (s.noticeQueue p).Sound := by
  refine ⟨fun s t h hs => ?_⟩
  obtain ⟨hn, -⟩ : t.notices = s.notices ∧ ∀ p, (t.port p).attn = (s.port p).attn := h .notices (by simp)
  have hq : t.noticeQueue p = s.noticeQueue p := congrArg (·[p.idx]) hn
  rw [hq]
  exact hs

theorem NoticeQueue.Sound.append {q : NoticeQueue} (h : q.Sound) (n : Notice) : (q.append n).Sound := by
  have hset : (q.append n).enabled = q.enabled := by
    unfold NoticeQueue.append
    split <;> rfl
  refine ⟨?_, by rw [hset]; exact h.handover, by rw [hset]; exact h.kinds⟩
  rw [NoticeQueue.append_queue]
  split
  · rw [List.length_append, List.length_singleton]; omega
  · exact h.depth

/-- Giving a notice keeps the queues at their depth. -/
theorem NoticeQueue.Sound.give {s : State} {q : Port} (h : (s.noticeQueue q).Sound) (p : Port) (n : Notice) :
    ((s.give p n).noticeQueue q).Sound := by
  unfold State.give
  split
  · rw [State.refreshAttn_noticeQueue, State.setNoticeQueue_noticeQueue]
    split
    · next hpq => subst hpq; exact h.append n
    · exact h
  · exact h

/-- Another queue for a port, its ATTN following, with the profile as it stands. -/
theorem NoticesSound.setQueue {s : State} {p q : Port} (h : s.NoticesSound q) {d : NoticeQueue} (hd : d.Sound)
    (hclosed : (s.port p).isOpen = false → d.queue = [] ∧ d.overflowed = false) :
    ((s.setNoticeQueue p d).refreshAttn p).NoticesSound q := by
  by_cases hpq : p = q
  · subst hpq
    have hqueue : ((s.setNoticeQueue p d).refreshAttn p).noticeQueue p = d := by
      rw [State.refreshAttn_noticeQueue, State.setNoticeQueue_noticeQueue, if_pos rfl]
    refine ⟨by rw [hqueue]; exact hd, by rw [hqueue]; simpa using hclosed, ?_⟩
    rw [State.refreshAttn_port, if_pos rfl]
    simp [State.attnLevel, State.refreshAttn_port]
  · have hqueue : ((s.setNoticeQueue p d).refreshAttn p).noticeQueue q = s.noticeQueue q := by
      rw [State.refreshAttn_noticeQueue, State.setNoticeQueue_noticeQueue, if_neg hpq]
    have hport : ((s.setNoticeQueue p d).refreshAttn p).port q = s.port q := by
      rw [State.refreshAttn_port, if_neg hpq, State.setNoticeQueue_port]
    exact ⟨by rw [hqueue]; exact h.queue, by rw [hqueue, hport]; exact h.closed,
      by rw [State.attnLevel, hqueue, hport]; exact h.attn⟩

/-- Giving a notice to any port keeps the notices of every port (R176, R177). -/
theorem NoticesSound.give {s : State} {q : Port} (h : s.NoticesSound q) (p : Port) (n : Notice) :
    (s.give p n).NoticesSound q := by
  unfold State.give
  split
  · next ho =>
    by_cases hpq : p = q
    · subst hpq
      exact NoticesSound.setQueue h (h.queue.append n) (by simp [ho])
    · have hqueue : ((s.setNoticeQueue p ((s.noticeQueue p).append n)).refreshAttn p).noticeQueue q
          = s.noticeQueue q := by
        rw [State.refreshAttn_noticeQueue, State.setNoticeQueue_noticeQueue, if_neg hpq]
      have hport : ((s.setNoticeQueue p ((s.noticeQueue p).append n)).refreshAttn p).port q = s.port q := by
        rw [State.refreshAttn_port, if_neg hpq, State.setNoticeQueue_port]
      exact ⟨by rw [hqueue]; exact h.queue, by rw [hqueue, hport]; exact h.closed,
        by rw [State.attnLevel, hqueue, hport]; exact h.attn⟩
  · exact h

theorem Delivers.noticesSound {s t : State} (h : Delivers s t) {p : Port} (hs : s.NoticesSound p) : t.NoticesSound p :=
  h.keep _ (noticesSound_dependsOn p) (fun _ q n hu => NoticesSound.give hu q n) hs

theorem Delivers.queueSound {s t : State} (h : Delivers s t) {p : Port} (hs : (s.noticeQueue p).Sound) :
    (t.noticeQueue p).Sound :=
  h.keep _ (queueSound_dependsOn_notices p) (fun _ q n hu => hu.give q n) hs

/-- Another profile for a port that stays as open as it was, ATTN following the attention enable. -/
theorem NoticesSound.setProfile {s : State} {p q : Port} (h : s.NoticesSound q) (e : Bool) (r l : Nat) (a : Bool) :
    (s.takeProfile p e r l a).NoticesSound q := by
  unfold State.takeProfile
  have hpart : ∀ u : State, u.NoticesSound q ∨ p = q ∧ (u.noticeQueue q).Sound ∧ ((u.port q).isOpen = false →
      (u.noticeQueue q).queue = [] ∧ (u.noticeQueue q).overflowed = false) → (u.refreshAttn p).NoticesSound q := by
    intro u hu
    by_cases hpq : p = q
    · subst hpq
      obtain ⟨h1, h2⟩ : (u.noticeQueue p).Sound ∧ ((u.port p).isOpen = false →
          (u.noticeQueue p).queue = [] ∧ (u.noticeQueue p).overflowed = false) :=
        hu.elim (fun h => ⟨h.queue, h.closed⟩) fun h => h.2
      refine ⟨by rw [State.refreshAttn_noticeQueue]; exact h1, by
        rw [State.refreshAttn_noticeQueue, State.refreshAttn_port_isOpen]; exact h2, ?_⟩
      rw [State.refreshAttn_port, if_pos rfl]
      simp [State.attnLevel, State.refreshAttn_port]
    · obtain h | ⟨h, -⟩ := hu
      · refine ⟨by rw [State.refreshAttn_noticeQueue]; exact h.queue, by
          rw [State.refreshAttn_noticeQueue, State.refreshAttn_port_isOpen]; exact h.closed, ?_⟩
        rw [State.refreshAttn_port, if_neg hpq, h.attn]
        simp [State.attnLevel]
      · exact absurd h hpq
  refine hpart _ ?_
  have htouch := restartSilence_touches (s.setPort p { s.port p with
    eligible := e, rank := r, silenceLimit := l, attention := a }) p
  by_cases hpq : p = q
  · subst hpq
    have hn : ((s.setPort p { s.port p with eligible := e, rank := r, silenceLimit := l, attention := a }).restartSilence p).notices
        = s.notices := (htouch .notices (by simp)).1
    have hq := congrArg (·[p.idx]) hn
    have ho := (DeskPort.profile_eq (htouch .profiles (by simp) p)).1
    rw [State.setPort_port_self] at ho
    refine .inr ⟨rfl, ?_, ?_⟩
    · change NoticeQueue.Sound (_ : State).notices[p.idx]
      rw [hn]
      exact h.queue
    · change _ → (_ : State).notices[p.idx].queue = [] ∧ (_ : State).notices[p.idx].overflowed = false
      rw [hn, ho]
      exact h.closed
  · refine .inl ((noticesSound_dependsOn q).keep htouch ?_)
    have hport := State.setPort_port_other s p
      { s.port p with eligible := e, rank := r, silenceLimit := l, attention := a } q (Ne.symm hpq)
    exact ⟨by rw [State.setPort_noticeQueue]; exact h.queue, by rw [State.setPort_noticeQueue, hport]; exact h.closed,
      by rw [State.attnLevel, State.setPort_noticeQueue, hport]; exact h.attn⟩

theorem takenKinds_sound (k : BitVec 16) : (takenKinds k).getLsbD 1 = true ∧ takenKinds k &&& 0x0FFE = takenKinds k := by
  constructor
  · simp [takenKinds]
  · simp only [takenKinds]
    ext i hi
    simp only [BitVec.getElem_and, BitVec.getElem_or]
    interval_cases i <;> simp

/-- A command's body keeps the notices of every port. -/
theorem noticesSound_body (i : Instr) :
    ForBody i fun p c b => ∀ s, ((s.port p).isOpen = true ∨ openExempt c = true) →
      s.rstLow = false → (∀ q, s.NoticesSound q) → ∀ q, (b s).1.NoticesSound q := by
  cases i with
  | reset => trivial
  | openPort p =>
    intro s _ _ hall q
    have hs := hall q
    unfold openBody
    split
    · exact hs
    · by_cases hpq : p = q
      · subst hpq
        refine ⟨hs.queue, fun h => ?_, ?_⟩
        · rw [State.setPort_port_self] at h; cases h
        · rw [State.setPort_port_self, State.attnLevel, State.setPort_port_self]; exact hs.attn
      · have hport := State.setPort_port_other s p { s.port p with isOpen := true } q (Ne.symm hpq)
        exact ⟨hs.queue, by rw [hport]; exact hs.closed, by rw [State.attnLevel, hport]; exact hs.attn⟩
  | closePort p =>
    intro s _ _ hall q
    change (s.closePort p).NoticesSound q
    unfold State.closePort
    have hafter : ∀ u : State, (u.noticeQueue p).Sound → (p ≠ q → u.NoticesSound q) →
        (u.emptyNotices p).NoticesSound q := by
      intro u hu hother
      by_cases hpq : p = q
      · subst hpq
        have hqueue : (u.emptyNotices p).noticeQueue p = { u.noticeQueue p with queue := [], overflowed := false } := by
          simp [State.emptyNotices]
        refine ⟨by rw [hqueue]; exact ⟨by simp, hu.handover, hu.kinds⟩, fun _ => by rw [hqueue]; exact ⟨rfl, rfl⟩, ?_⟩
        rw [State.emptyNotices, State.refreshAttn_port, if_pos rfl]
        simp [State.attnLevel, State.refreshAttn_port]
      · exact NoticesSound.setQueue (hother hpq) ⟨by simp, hu.handover, hu.kinds⟩ fun _ => ⟨rfl, rfl⟩
    have hclose : Delivers (s.markClosed p) ((((s.markClosed p).arbiterCloses p).releaseClaims p).removeCues p |>.setWriteSetting
        p WriteSettings.reset) :=
      (((Delivers.arbiterCloses _ p).trans (.of_touches (touches_claims _ _ _))).trans
        (.of_touches (touches_cues _ _))).trans (.of_touches (touches_writeSettings _ _))
    refine hafter _ (hclose.queueSound (hall p).queue) fun hpq => hclose.noticesSound ?_
    have hport : (s.markClosed p).port q = s.port q := State.setPort_port_other s p _ q (Ne.symm hpq)
    exact ⟨(hall q).queue, by rw [hport]; exact (hall q).closed, by rw [State.attnLevel, hport]; exact (hall q).attn⟩
  | setProfile p e r l a =>
    intro s _ _ hall q
    have hs := hall q
    unfold setProfileBody
    split
    · split
      · exact hs
      · exact NoticesSound.setProfile hs _ _ _ _
    · exact hs
  | setNotices p k t =>
    intro s _ _ hall q
    have hs := hall q
    unfold setNoticesBody
    split
    · exact hs
    · obtain ⟨h1, h2⟩ := takenKinds_sound k
      by_cases hpq : p = q
      · subst hpq
        refine ⟨?_, ?_, ?_⟩
        · rw [State.setNoticeQueue_noticeQueue, if_pos rfl]
          exact ⟨hs.queue.depth, h1, h2⟩
        · rw [State.setNoticeQueue_noticeQueue, if_pos rfl]
          exact hs.closed
        · rw [State.attnLevel, State.setNoticeQueue_noticeQueue, if_pos rfl]
          exact hs.attn
      · have hqueue : ∀ d, (s.setNoticeQueue p d).noticeQueue q = s.noticeQueue q := fun d => by
          rw [State.setNoticeQueue_noticeQueue, if_neg hpq]
        exact ⟨by rw [hqueue]; exact hs.queue, by rw [hqueue]; exact hs.closed,
          by rw [State.attnLevel, hqueue]; exact hs.attn⟩
  | readNotices p =>
    intro s _ _ hall q
    refine NoticesSound.setQueue (hall q) ⟨?_, (hall p).queue.handover, (hall p).queue.kinds⟩ fun h => ⟨?_, rfl⟩
    · exact (List.drop_sublist _ _).length_le.trans (hall p).queue.depth
    · rw [((hall p).closed h).1]; rfl
  | _ => exact ForBody.intro fun p c b hb s _ _ hall q => ((body_delivers _ rfl).elim hb s).noticesSound (hall q)

/-- At reset every queue is empty, with the kinds of the power-on value enabled. -/
theorem noticesSound_of_reset {t : State} (hn : t.notices = State.reset.notices) (hp : t.ports = State.reset.ports)
    (q : Port) : t.NoticesSound q := by
  have hqueue : t.noticeQueue q = NoticeQueue.reset := by
    rw [State.noticeQueue, hn]; simp [State.reset]
  have hport : t.port q = DeskPort.reset := by
    rw [State.port, hp]; simp [State.reset]
  refine ⟨by rw [hqueue]; exact ⟨by decide, by decide, by decide⟩, by rw [hqueue]; exact fun _ => ⟨rfl, rfl⟩, ?_⟩
  rw [State.attnLevel, hqueue, hport]
  rfl

/-- Every event keeps the notices of every port. -/
theorem noticesSound_event {i : Instr} {s t : State} (h : EventDoes s t i) (hs : ∀ q, s.NoticesSound q) (q : Port) :
    t.NoticesSound q := by
  cases i with
  | reset =>
    subst h
    refine noticesSound_of_reset ?_ ?_ q <;> rfl
  | openPort | closePort | setProfile | setNotices | readNotices => exact False.elim h
  | _ => exact (event_delivers h rfl).noticesSound (hs q)

/-- Every step keeps the notices of every port. -/
theorem noticeInv_step (s t : State) (hs : s.NoticeInv) (h : step s = .next t) : t.NoticeInv := by
  have hkeep : ∀ {s t : State} {bs}, Touches bs s t → (∀ b ∈ [Block.profiles, .notices], b ∉ bs) →
      (∀ q, s.NoticesSound q) → ∀ q, t.NoticesSound q :=
    fun ht hD hs q => (noticesSound_dependsOn q).keep ht (hs q) hD
  rw [noticeInv_iff] at hs ⊢
  refine step_keeps (P := fun s => ∀ q, s.NoticesSound q) (Q := fun s => ∀ q, s.NoticesSound q)
    (fun s t h => hkeep h (by simp)) (fun _ => id)
    (fun s hs _ _ q => ⟨(hs q).queue, (hs q).closed, (hs q).attn⟩) ?_ s t hs h
  refine exec_keeps (fun _ => id) ?_ ?_ ?_ ?_ noticesSound_body fun i s t => noticesSound_event
  · exact fun p out s => hkeep (frameEnds_touches s p out) (by simp)
  · exact fun p b x s hs q => (Delivers.postAt s p b x).noticesSound (hs q)
  · exact fun p code rest s => hkeep (accept_touches s p code rest) (by simp)
  · exact fun p c a s => hkeep (answered_touches s p c a) (by simp)

end Sys2Proof.Machine

/-! PROOF. The profiles, READY and the claims through every step (chapters 8 and 9). -/

namespace Sys2Proof.Machine

/-! ### Profiles and READY -/

/-- A port's profile is in its ranges (R171). -/
structure DeskPort.ProfileSound (d : DeskPort) : Prop where
  rank : d.rank ≤ 3
  limit : d.silenceLimit ≤ 100

/-- READY is low exactly while a command is in flight, with an instant for its taking (R164). -/
structure DeskPort.LinkSound (d : DeskPort) : Prop where
  ready : d.ready = false ↔ d.inFlight.isSome = true
  taken : d.takeAt.isSome = true ↔ d.inFlight.isSome = true

theorem DeskPort.legal_iff (d : DeskPort) : d.Legal ↔ d.ProfileSound ∧ d.LinkSound :=
  ⟨fun ⟨h1, h2, h3, h4⟩ => ⟨⟨h1, h2⟩, ⟨h3, h4⟩⟩, fun ⟨⟨h1, h2⟩, ⟨h3, h4⟩⟩ => ⟨h1, h2, h3, h4⟩⟩

theorem DeskPort.ProfileSound.reset : DeskPort.reset.ProfileSound := ⟨by decide, by decide⟩

theorem DeskPort.LinkSound.reset : DeskPort.reset.LinkSound := ⟨by decide, by decide⟩

theorem profileSound_dependsOn : DependsOn [.profiles] fun s => ∀ p, (s.port p).ProfileSound := by
  refine ⟨fun s t h hs p => ?_⟩
  obtain ⟨-, -, hr, hl, -⟩ := DeskPort.profile_eq (h .profiles (by simp) p)
  exact ⟨hr.trans_le (hs p).rank, hl.trans_le (hs p).limit⟩

theorem linkSound_dependsOn : DependsOn [.links] fun s => ∀ p, (s.port p).LinkSound := by
  refine ⟨fun s t h hs p => ?_⟩
  have hp : (t.port p).link = (s.port p).link := h .links (by simp) p
  simp only [DeskPort.link, Prod.mk.injEq] at hp
  obtain ⟨hf, hr, ht⟩ := hp
  exact ⟨by rw [hf, hr]; exact (hs p).ready, by rw [hf, ht]; exact (hs p).taken⟩

/-- What is given for one port holds of every port's new record when it holds of that one. -/
theorem setPort_keeps {P : DeskPort → Prop} {s : State} (hs : ∀ q, P (s.port q)) (p : Port) {d : DeskPort} (hd : P d)
    (q : Port) : P ((s.setPort p d).port q) := by
  rw [State.setPort_port]
  split
  · exact hd
  · exact hs q

theorem readRank_some {b : Byte} {r : Nat} (h : readRank b = some r) : r = b.toNat ∧ r ≤ 3 := by
  unfold readRank at h
  split at h <;> simp only [Option.some.injEq, reduceCtorEq] at h
  subst h
  exact ⟨rfl, ‹_›⟩

theorem profileSound_body (i : Instr) :
    ForBody i fun p c b => ∀ s, ((s.port p).isOpen = true ∨ openExempt c = true) →
      s.rstLow = false → (∀ q, (s.port q).ProfileSound) → ∀ q, ((b s).1.port q).ProfileSound := by
  cases i with
  | openPort p =>
    intro s _ _ hs
    unfold openBody
    split
    · exact hs
    · exact setPort_keeps hs p ⟨(hs p).rank, (hs p).limit⟩
  | closePort p =>
    intro s _ _ hs
    have hmark : ∀ q, ((s.markClosed p).port q).ProfileSound := setPort_keeps hs p ⟨(hs p).rank, (hs p).limit⟩
    have harb := profileSound_dependsOn.keep (arbiterCloses_touches _ p) hmark (by simp [leadBlocks])
    exact profileSound_dependsOn.keep (closeRest_touches _ p) harb (by simp)
  | setProfile p e r l a =>
    intro s _ _ hs
    unfold setProfileBody
    split
    · next v k w _ hk _ =>
      split
      · exact hs
      · have htouch : Touches [.silence, .notices] (s.setPort p { s.port p with
            eligible := v, rank := k, silenceLimit := (clampNat 0 Config.silenceMax l.toNat).1, attention := w })
            (s.takeProfile p v k (clampNat 0 Config.silenceMax l.toNat).1 w) :=
          (restartSilence_touches _ p).mono.trans (refreshAttn_touches _ p).mono
        refine profileSound_dependsOn.keep htouch (setPort_keeps hs p ⟨(readRank_some hk).2, ?_⟩) (by simp)
        exact (clampNat_spec (by decide)).2.1
    · exact hs
  | reset => trivial
  | _ => exact ForBody.of_dependsOn profileSound_dependsOn fun _ => id

/-- Every step keeps the ports legal. -/
theorem portInv_step (s t : State) (hs : s.PortInv) (h : step s = .next t) : t.PortInv := by
  have hprofile : ∀ p, (t.port p).ProfileSound := by
    refine step_keeps_of_dependsOn profileSound_dependsOn profileSound_dependsOn (fun _ => id) (fun s hs _ _ => hs)
      profileSound_body ?_ (by simp) s t (fun p => ((DeskPort.legal_iff _).1 (hs p)).1) h
    intro i s t he hs
    cases i with
    | reset => subst he; intro p; simp [State.reset, State.port, DeskPort.ProfileSound.reset]
    | _ => exact profileSound_dependsOn.event he hs
  have hlink : ∀ p, (t.port p).LinkSound := by
    refine step_keeps (fun s t h hs => linkSound_dependsOn.keep h hs (by simp)) (fun _ => id) (fun s hs _ _ => hs)
      (exec_keeps (fun _ => id) ?_ ?_ ?_ ?_ ?_ ?_) s t (fun p => ((DeskPort.legal_iff _).1 (hs p)).2) h
    · exact fun p out s hs => linkSound_dependsOn.keep (frameEnds_touches s p out) hs (by simp)
    · exact fun p b x s hs => linkSound_dependsOn.keep (postAt_touches s p b x) hs (by simp)
    · exact fun p code rest s hs => setPort_keeps
        (linkSound_dependsOn.keep (frameEnds_touches s p _) hs (by simp)) p ⟨by simp, by simp⟩
    · exact fun p c a s hs => setPort_keeps hs p ⟨by simp, by simp⟩
    · intro i
      refine ForBody.of_dependsOn linkSound_dependsOn (fun _ => id) ?_
      cases i <;> simp [commandBody]
    · intro i s t he hs
      cases i with
      | reset => subst he; intro p; simp [State.reset, State.port, DeskPort.LinkSound.reset]
      | _ => exact linkSound_dependsOn.event he hs
  exact fun p => (DeskPort.legal_iff _).2 ⟨hprofile p, hlink p⟩

/-! ### Claims -/

/-- Port `p` holds a lane or a player. -/
def State.Holds (s : State) (p : Port) : Prop :=
  (∃ l, s.laneHolder l = some p) ∨ ∃ i, s.playerHolder i = some p

theorem claimsInv_iff (s : State) : s.ClaimsInv ↔ ∀ p, s.Holds p → (s.port p).isOpen = true := by
  constructor
  · rintro ⟨hl, hi⟩ p (⟨l, h⟩ | ⟨i, h⟩)
    · exact hl l p h
    · exact hi i p h
  · exact fun h => ⟨fun l p hl => h p (.inl ⟨l, hl⟩), fun i p hi => h p (.inr ⟨i, hi⟩)⟩

theorem claimsInv_dependsOn : DependsOn [.claims, .profiles] State.ClaimsInv := by
  refine ⟨fun s t h hs => ?_⟩
  obtain ⟨hl, hi⟩ : t.laneClaims = s.laneClaims ∧ t.playerClaims = s.playerClaims := h .claims (by simp)
  have hopen : ∀ p, (t.port p).isOpen = (s.port p).isOpen :=
    fun p => (DeskPort.profile_eq (h .profiles (by simp) p)).1
  refine ⟨fun l p hp => ?_, fun i p hp => ?_⟩
  · rw [hopen]; exact hs.1 l p (by rwa [State.laneHolder, hl] at hp)
  · rw [hopen]; exact hs.2 i p (by rwa [State.playerHolder, hi] at hp)

/-- Claims that only a port that is open gains, the ports standing as open as they were. -/
theorem State.ClaimsInv.of_holds {s t : State} (hs : s.ClaimsInv) (hp : t.ports = s.ports)
    (h : ∀ p, t.Holds p → s.Holds p ∨ (s.port p).isOpen = true) : t.ClaimsInv := by
  rw [claimsInv_iff] at hs ⊢
  intro p ht
  rw [State.port, hp]
  exact (h p ht).elim (hs p) id

theorem State.releaseClaims_laneHolder (s : State) (p : Port) (l : Fin 16) :
    (s.releaseClaims p).laneHolder l = if s.laneHolder l = some p then none else s.laneHolder l := by
  simp [State.releaseClaims, State.laneHolder]

theorem State.releaseClaims_playerHolder (s : State) (p : Port) (i : Fin 4) :
    (s.releaseClaims p).playerHolder i = if s.playerHolder i = some p then none else s.playerHolder i := by
  simp [State.releaseClaims, State.playerHolder]

theorem State.releaseClaims_holds {s : State} {p q : Port} (h : (s.releaseClaims p).Holds q) : s.Holds q ∧ q ≠ p := by
  obtain ⟨l, h⟩ | ⟨i, h⟩ := h
  · rw [State.releaseClaims_laneHolder] at h
    split at h
    · cases h
    · next hne => exact ⟨.inl ⟨l, h⟩, fun e => hne (e ▸ h)⟩
  · rw [State.releaseClaims_playerHolder] at h
    split at h
    · cases h
    · next hne => exact ⟨.inr ⟨i, h⟩, fun e => hne (e ▸ h)⟩

/-- A claim table written cell by cell. -/
theorem State.laneHolder_of_claims (s : State) (f : Fin 16 → Option Port) (l : Fin 16) :
    ({ s with laneClaims := Vector.ofFn f } : State).laneHolder l = f l := by
  simp [State.laneHolder]

theorem State.playerHolder_of_claims (s : State) (f : Fin 4 → Option Port) (i : Fin 4) :
    ({ s with playerClaims := Vector.ofFn f } : State).playerHolder i = f i := by
  simp [State.playerHolder]

theorem State.ClaimsInv.withLanes {s : State} (hs : s.ClaimsInv) {f : Fin 16 → Option Port}
    (h : ∀ l p, f l = some p → s.laneHolder l = some p ∨ (s.port p).isOpen = true) :
    ({ s with laneClaims := Vector.ofFn f } : State).ClaimsInv := by
  refine hs.of_holds rfl ?_
  rintro p (⟨l, hl⟩ | hi)
  · rw [State.laneHolder_of_claims] at hl
    exact (h l p hl).imp_left fun h => .inl ⟨l, h⟩
  · exact .inl (.inr hi)

theorem State.ClaimsInv.withPlayers {s : State} (hs : s.ClaimsInv) {f : Fin 4 → Option Port}
    (h : ∀ i p, f i = some p → s.playerHolder i = some p ∨ (s.port p).isOpen = true) :
    ({ s with playerClaims := Vector.ofFn f } : State).ClaimsInv := by
  refine hs.of_holds rfl ?_
  rintro p (hl | ⟨i, hi⟩)
  · exact .inl (.inl hl)
  · rw [State.playerHolder_of_claims] at hi
    exact (h i p hi).imp_left fun h => .inr ⟨i, h⟩

/-- A port's new record leaves the claims as they are. -/
theorem State.ClaimsInv.setPort {s : State} (hs : s.ClaimsInv) (p : Port) {d : DeskPort} (hd : d.isOpen = true) :
    (s.setPort p d).ClaimsInv := by
  refine ⟨fun l q h => ?_, fun i q h => ?_⟩ <;> rw [State.setPort_port] <;> split
  · exact hd
  · exact hs.1 l q h
  · exact hd
  · exact hs.2 i q h

/-- A port that closes holds nothing, and the others hold what they held (R145). -/
theorem State.ClaimsInv.closePort {s : State} (hs : s.ClaimsInv) (p : Port) : (s.closePort p).ClaimsInv := by
  rw [claimsInv_iff] at hs
  have hrest : ∀ u : State, Touches [.cues, .writeSettings, .notices] (u.releaseClaims p)
      ((((u.releaseClaims p).removeCues p).setWriteSetting p WriteSettings.reset).emptyNotices p) := fun u =>
    ((Touches.mono (as := [.cues]) (touches_cues _ _)).trans
      (Touches.mono (as := [.writeSettings]) (touches_writeSettings _ _))).trans (emptyNotices_touches _ p).mono
  refine claimsInv_dependsOn.keep (hrest _) ?_ (by simp)
  rw [claimsInv_iff]
  intro q hq
  obtain ⟨hheld, hne⟩ := State.releaseClaims_holds hq
  have harb := arbiterCloses_touches (s.markClosed p) p
  have hopen : (((s.markClosed p).arbiterCloses p).port q).isOpen = (s.port q).isOpen := by
    rw [(DeskPort.profile_eq (harb .profiles (by simp [leadBlocks]) q)).1]
    exact congrArg _ (State.setPort_port_other s p _ q hne)
  obtain ⟨hl, hi⟩ : ((s.markClosed p).arbiterCloses p).laneClaims = s.laneClaims
      ∧ ((s.markClosed p).arbiterCloses p).playerClaims = s.playerClaims := harb .claims (by simp [leadBlocks])
  change (((s.markClosed p).arbiterCloses p).port q).isOpen = true
  rw [hopen]
  refine hs q ?_
  unfold State.Holds State.laneHolder State.playerHolder at hheld ⊢
  rwa [hl, hi] at hheld

theorem claimsInv_body (i : Instr) :
    ForBody i fun p c b => ∀ s, ((s.port p).isOpen = true ∨ openExempt c = true) →
      s.rstLow = false → s.ClaimsInv → (b s).1.ClaimsInv := by
  cases i with
  | openPort p =>
    intro s _ _ hs
    unfold openBody
    split
    · exact hs
    · exact hs.setPort p rfl
  | closePort p => exact fun s _ _ hs => hs.closePort p
  | setProfile p e r l a =>
    intro s ho _ hs
    have ho : (s.port p).isOpen = true := ho.resolve_right (by simp [openExempt])
    unfold setProfileBody
    split
    · split
      · exact hs
      · exact claimsInv_dependsOn.keep
          ((restartSilence_touches _ p).mono.trans (refreshAttn_touches _ p).mono :
            Touches [.silence, .notices] _ _) (hs.setPort p ho) (by simp)
    · exact hs
  | claimLanes p f n =>
    intro s ho _ hs
    have ho : (s.port p).isOpen = true := ho.resolve_right (by simp [openExempt])
    unfold claimLanesBody
    split
    · split
      · exact hs
      · refine hs.withLanes fun l q h => ?_
        split at h
        · cases h; exact .inr ho
        · exact .inl h
    · exact hs
  | releaseLanes p f n =>
    intro s _ _ hs
    unfold releaseLanesBody
    split
    · refine hs.withLanes fun l q h => .inl ?_
      split at h
      · cases h
      · exact h
    · exact hs
  | claimPlayer p f n =>
    intro s ho _ hs
    have ho : (s.port p).isOpen = true := ho.resolve_right (by simp [openExempt])
    unfold claimPlayerBody
    split
    · split
      · exact hs
      · refine hs.withPlayers fun l q h => ?_
        split at h
        · cases h; exact .inr ho
        · exact .inl h
    · exact hs
  | releasePlayer p f n =>
    intro s _ _ hs
    unfold releasePlayerBody
    split
    · refine hs.withPlayers fun l q h => .inl ?_
      split at h
      · cases h
      · exact h
    · exact hs
  | reset => trivial
  | _ => exact ForBody.of_dependsOn claimsInv_dependsOn fun _ => id

theorem claimsInv_of_reset {t : State} (hl : t.laneClaims = State.reset.laneClaims)
    (hi : t.playerClaims = State.reset.playerClaims) : t.ClaimsInv := by
  refine ⟨fun l p h => ?_, fun i p h => ?_⟩
  · rw [State.laneHolder, hl] at h; simp [State.reset] at h
  · rw [State.playerHolder, hi] at h; simp [State.reset] at h

/-- Every step keeps the claims with the open ports. -/
theorem claimsInv_step (s t : State) (hs : s.ClaimsInv) (h : step s = .next t) : t.ClaimsInv := by
  refine step_keeps_of_dependsOn claimsInv_dependsOn claimsInv_dependsOn (fun _ => id)
    (fun s hs _ _ => ⟨hs.1, hs.2⟩) claimsInv_body ?_ (by simp) s t hs h
  intro i s t he hs
  cases i with
  | reset => subst he; exact claimsInv_of_reset rfl rfl
  | _ => exact claimsInv_dependsOn.event he hs

/-- Settles O58, each of the three invariants by its own step lemma. -/
theorem stepsKeepPortsClaimsAndNoticesLegal : Obligations.StepsKeepPortsClaimsAndNoticesLegal := by
  rintro s t ⟨hp, hc, hn⟩ h
  exact ⟨portInv_step s t hp h, claimsInv_step s t hc h, noticeInv_step s t hn h⟩

end Sys2Proof.Machine

/-! PROOF. The step, the reset pin, the frames and the checks that come before a command's own rules (chapters 1
and 9). -/

namespace Sys2Proof.Machine

/-! ### One step -/

/-- Settles O1, by the first branch of `step`. -/
theorem stepRunsFrontCommand : Obligations.StepRunsFrontCommand := by
  intro c rest s h
  unfold step
  rw [h]

theorem step_of_no_pending {s : State} (h : s.pending = []) : step s = s.idle := by
  unfold step
  rw [h]

/-- No event is due while RST is low (R1, log entry 11). -/
theorem dueEvents_of_rstLow {s : State} (h : s.rstLow = true) : s.dueEvents = [] := by
  simp [State.dueEvents, h]

theorem idle_of_none_due {s : State} (h : s.dueEvents = []) : s.idle = .next s.tick := by
  simp [State.idle, State.chosenEvent, h]

/-- Where an event is due, an idle step takes one (log entry 4). -/
theorem idle_of_due {s : State} (h : s.dueEvents ≠ []) :
    ∃ i ∈ s.dueEvents, s.idle = exec i s.countChoice := by
  have hlt : Config.eventChoice s.choices % s.dueEvents.length < s.dueEvents.length :=
    Nat.mod_lt _ (List.length_pos_iff.2 h)
  have hchosen : s.chosenEvent = some s.dueEvents[Config.eventChoice s.choices % s.dueEvents.length] :=
    List.getElem?_eq_getElem hlt
  exact ⟨_, List.getElem_mem hlt, by unfold State.idle; rw [hchosen]⟩

/-- Settles O2, by what is due. -/
theorem idleStepTakesDueEventOrTicks : Obligations.IdleStepTakesDueEventOrTicks := by
  intro s h
  refine ⟨fun hr => ?_, fun hr hd => ?_, fun hd => ?_⟩
  · rw [step_of_no_pending h, idle_of_none_due (dueEvents_of_rstLow hr), State.tick, if_pos hr]
  · rw [step_of_no_pending h, idle_of_none_due hd, State.tick, if_neg (by simp [hr])]
  · obtain ⟨i, hi, he⟩ := idle_of_due hd
    exact ⟨i, hi, (step_of_no_pending h).trans he⟩

/-! ### The reset pin -/

/-- RST low holds off every frame and every tap edge (R1). -/
theorem exec_of_rstLow {i : Instr} {s : State} (hr : s.rstLow = true)
    (hi : i.port?.isSome = true ∨ ∃ k, i = .tapEdge k) : exec i s = .next s := by
  obtain hp | ⟨k, rfl⟩ := hi
  · obtain ⟨p, hp⟩ := Option.isSome_iff_exists.1 hp
    cases hc : commandBody i with
    | some d =>
      obtain ⟨q, c, b⟩ := d
      rw [exec_of_commandBody hc, take, arrive, if_pos hr]
    | none =>
      obtain ⟨code, rest, rfl⟩ | ⟨f, rfl⟩ | rfl | ⟨code, rest, rfl⟩ := commandBody_eq_none hc hp
      · exact if_pos hr
      · exact if_pos hr
      · exact if_pos hr
      · change execUnknownCommand p code rest s = _
        rw [execUnknownCommand, arrive, if_pos hr, ite_self]
  · exact if_pos hr

/-- Settles O3: RESET's values each by its block's own, and the hold by `exec_of_rstLow`. -/
theorem resetSetsPowerOnValuesAndHolds : Obligations.ResetSetsPowerOnValuesAndHolds := by
  refine ⟨fun s => ⟨?_, fun hr => if_pos hr, fun hr => if_neg (by simp [hr])⟩, fun i s hr => ⟨exec_of_rstLow hr, fun hp => ?_⟩⟩
  · refine ⟨_, rfl, ?_⟩
    refine ⟨rfl, rfl, rfl, rfl, rfl, rfl, rfl, rfl, ?_, rfl, ?_, rfl, ?_, ?_, ?_, ?_, ?_, ?_, ?_, rfl, rfl, rfl⟩ <;>
      intro n <;> simp [State.reset, State.tap, State.allocation, State.writeSetting, State.player,
        State.laneHolder, State.playerHolder, State.lane, State.port, State.noticeQueue] <;> rfl
  · rw [step_of_no_pending hp, idle_of_none_due (dueEvents_of_rstLow hr), State.tick, if_pos hr]

/-! ### Frames -/

/-- A frame's end puts the bytes shifted out on data-out and restarts the silence timer of the leader's port with
its limit (R69, R163). -/
theorem State.frameEnds_eq (s : State) (p : Port) (out : List Byte) :
    s.frameEnds p out = { s.setPort p { s.port p with dataOut := out } with
      arbiter := { s.arbiter with
        silenceExpiry :=
          if s.arbiter.leader = .port p then
            if (s.port p).silenceLimit = 0 then none
            else some (s.houseTime + BitVec.ofNat 64 ((s.port p).silenceLimit * 100000))
          else s.arbiter.silenceExpiry } } := by
  have hport : (s.setPort p { s.port p with dataOut := out }).port p = { s.port p with dataOut := out } :=
    State.setPort_port_self _ _ _
  unfold State.frameEnds State.restartSilence
  rw [hport]
  by_cases h : s.arbiter.leader = .port p
  · rw [if_pos (by exact h), if_pos h]; rfl
  · rw [if_neg (by exact h), if_neg h]; rfl

/-- With a reply standing and READY high throughout, a fetch shifts out the reply and then zeros (R165). -/
theorem DeskPort.fetchBytes_of_reply {d : DeskPort} {r : Reply} (h : d.reply = some r) (n : Nat) (low : Bool) :
    d.fetchBytes ⟨n, low⟩ =
      ((if low = false ∧ d.ready = true then r.status.code :: r.code :: (toBytes 2 r.payload.length ++ r.payload)
        else [0, 0, 0, 0]) ++ List.replicate n 0).take n := by
  unfold DeskPort.fetchBytes
  rw [h]
  cases low <;> cases d.ready <;> rfl

/-- With no reply yet a fetch shifts out zeros (R165). -/
theorem DeskPort.fetchBytes_of_none {d : DeskPort} (h : d.reply = none) (n : Nat) (low : Bool) :
    d.fetchBytes ⟨n, low⟩ = List.replicate n 0 := by
  have hzeros : d.fetchBytes ⟨n, low⟩ = (List.replicate 4 (0 : Byte) ++ List.replicate n 0).take n := by
    unfold DeskPort.fetchBytes
    rw [h]
    cases (d.ready && !low) <;> rfl
  rw [hzeros, List.replicate_append_replicate, List.take_replicate]
  congr 1
  omega

/-- Settles O4, frame by frame. -/
theorem framesAreAcceptedFetchedOrIgnored : Obligations.FramesAreAcceptedFetchedOrIgnored := by
  constructor
  · intro p code rest s hr hcode zeros u
    have hcode : ¬ code = fetchCode := hcode
    refine ⟨fun hready => ?_, fun hready => ?_⟩
    · refine ⟨Config.takeDelay s.acceptedFrames % (Config.takeWindow + 1),
        Nat.le_of_lt_succ (Nat.mod_lt _ (Nat.succ_pos _)), ?_⟩
      change execCommandFrame p code rest s = _
      have hport : u.port p = { s.port p with dataOut := zeros } := by rw [State.frameEnds_port, if_pos rfl]
      rw [execCommandFrame, if_neg (by simp [hr]), if_neg hcode, if_pos hready]
      change Host.Outcome.next { u.setPort p { u.port p with
          inFlight := some ⟨code, rest⟩, ready := false
          takeAt := some (later u.houseTime (Config.takeDelay u.acceptedFrames % (Config.takeWindow + 1))) } with
        acceptedFrames := u.acceptedFrames + 1 } = _
      rw [hport]
      simp [later, u]
    · change execCommandFrame p code rest s = _
      rw [execCommandFrame, if_neg (by simp [hr]), if_neg hcode, if_neg (by simp [hready])]
      rfl
  · intro p n low s hr arb
    have hfetch : exec (.fetchFrame p ⟨n, low⟩) s = .next (s.fetch p ⟨n, low⟩) := if_neg (by simp [hr])
    refine ⟨?_, fun r h => ?_, fun h => ?_⟩
    · change execEmptyFrame p s = _
      rw [execEmptyFrame, if_neg (by simp [hr]), State.frameEnds_eq]
    · rw [hfetch, State.fetch, State.frameEnds_eq, DeskPort.fetchBytes_of_reply h]
    · rw [hfetch, State.fetch, State.frameEnds_eq, DeskPort.fetchBytes_of_none h]

/-! ### The checks before a command's own rules -/

theorem openExempt_iff (code : Byte) : openExempt code = true ↔ code ∈ ([0x01, 0x05, 0x18, 0x32, 0x27] : List Byte) := by
  simp [openExempt]

/-- Settles O5, by the one body of UNKNOWN_COMMAND. -/
theorem unspelledFrameIsAnswered : Obligations.UnspelledFrameIsAnswered := by
  intro p code rest s hcode hdecode hcan
  change execUnknownCommand p code rest s = _
  have hstatus : unspelledStatus (s.heard p (.unknownCommand p code rest)) p code rest =
      (if frameComplete rest = false then .badFrame
       else if commandLength code = none then .unknown
       else if (s.port p).isOpen = false ∧ code ∉ ([0x01, 0x05, 0x18, 0x32, 0x27] : List Byte) then .notOpen
       else .badFrame) := by
    unfold unspelledStatus
    rw [State.heard_port_isOpen]
    cases frameComplete rest
    · rfl
    · cases commandLength code
      · rfl
      · by_cases hx : code ∈ ([0x01, 0x05, 0x18, 0x32, 0x27] : List Byte)
        · simp only [(openExempt_iff code).2 hx, hx, not_true, and_false, Bool.or_true, if_true, if_false]
          rfl
        · have hx' : openExempt code = false := by rw [← Bool.not_eq_true, openExempt_iff]; exact hx
          simp only [hx, hx']
          cases (s.port p).isOpen <;> rfl
  have hspells : ¬ (code = fetchCode ∨ decodeFrame p code rest ≠ .unknownCommand p code rest) :=
    not_or.2 ⟨hcode, not_not.2 hdecode⟩
  rw [execUnknownCommand, if_neg hspells, arrive_of_canTake hcan, hstatus]
  rfl

/-- A command whose code a closed port may send is one of the five, and its body answers no NOT_OPEN (R167). -/
theorem exempt_body {i : Instr} {p : Port} {c : Byte} {b : State → State × Answer} (h : commandBody i = some (p, c, b))
    (hx : openExempt c = true) (s : State) : (b s).2.status ≠ .notOpen := by
  cases i <;> simp only [commandBody, Option.some.injEq, Prod.mk.injEq, reduceCtorEq] at h <;>
    obtain ⟨-, rfl, rfl⟩ := h <;> simp only [openExempt, BitVec.reduceEq, or_false, or_true, decide_eq_true_eq] at hx
  case openPort =>
    unfold openBody
    split <;> exact Status.noConfusion
  case readTap =>
    unfold readTapBody
    split <;> exact Status.noConfusion
  all_goals exact Status.noConfusion

theorem exists_commandBody {i : Instr} {p : Port} {code : Byte} {payload : List Byte}
    (hc : commandPayload i = some (code, payload)) (hp : i.port? = some p) :
    ∃ b, commandBody i = some (p, code, b) := by
  cases i <;>
    simp only [commandPayload, Instr.port?, Option.some.injEq, Prod.mk.injEq, reduceCtorEq] at hc hp <;>
    obtain ⟨rfl, -⟩ := hc <;> subst hp <;> exact ⟨_, rfl⟩

/-- Settles O6, by check 3 of R167 and the bodies of the five. -/
theorem closedPortIsAnsweredNotOpen : Obligations.ClosedPortIsAnsweredNotOpen := by
  intro i p code payload s hc hp hcan hclosed
  obtain ⟨b, hb⟩ := exists_commandBody hc hp
  rw [exec_of_commandBody hb, ← openExempt_iff]
  refine ⟨fun hx => take_of_closed hcan hclosed (by simpa using hx) b, fun hx => ?_⟩
  exact ⟨_, _, _, exempt_body hb hx (s.heard p i), take_of_exempt hcan hx b⟩

/-- The three cues of the leader alone (R56, R103). -/
theorem scheduleCueBody_notLeader {p : Port} {c : RawCue} {s : State} (hl : s.arbiter.leader ≠ .port p)
    (hc : c.action ∈ ([4, 5, 6] : List Byte)) : scheduleCueBody p c s = (s, .bare .notLeader) := by
  have hkind : ∃ k, readActionKind c.action = some k ∧ k.leaderOnly = true := by
    simp only [List.mem_cons, List.not_mem_nil, or_false] at hc
    obtain h | h | h := hc <;> rw [h]
    · exact ⟨_, rfl, rfl⟩
    · exact ⟨_, rfl, rfl⟩
    · exact ⟨_, rfl, rfl⟩
  obtain ⟨k, hk, hlead⟩ := hkind
  unfold scheduleCueBody
  rw [hk]
  simp [hlead, State.leads, hl, refusal]

/-- Settles O7, by the one check of R56. -/
theorem nonLeaderIsRefused : Obligations.NonLeaderIsRefused := by
  refine ⟨fun i p code payload s hc hp hcan hl hcode => ?_, fun p c s hcan hl hc => ?_⟩
  · obtain ⟨body, hbody⟩ := exec_eq_asLeader hc hp hcode
    rw [hbody, take_of_canCommand hcan, asLeader_of_not (by simpa using hl)]
    rfl
  · change take p 0x39 _ (scheduleCueBody p c) s = _
    rw [take_of_canCommand hcan, scheduleCueBody_notLeader (by simpa using hl) hc]
    rfl

/-- Settles O8, by the one check of R121. -/
theorem patternCommandsAreBusyDuringClear : Obligations.PatternCommandsAreBusyDuringClear := by
  intro i p code payload s hc hp hcan hclear hcode
  obtain ⟨body, hbody⟩ := exec_eq_afterClear hc hp hcode
  rw [hbody, take_of_canCommand hcan, afterClear, if_pos (by simpa using hclear)]
  rfl

end Sys2Proof.Machine

/-! PROOF. The machine right after reset, and a port's profile and identity (section 9.5). -/

namespace Sys2Proof.Machine

/-! ### A command that is taken -/

section Taken

variable {i : Instr} {p : Port} {c : Byte} {b : State → State × Answer} {s : State}

/-- A command of an open port that can be taken is answered from its body (R164, R167). -/
theorem exec_taken (hb : commandBody i = some (p, c, b)) (h : s.canCommand p i) :
    exec i s = answers p c (b (s.heard p i)).2.status (b (s.heard p i)).2.payload (b (s.heard p i)).1 := by
  rw [exec_of_commandBody hb, take_of_canCommand h]
  rfl

/-- A command that a closed port may send is answered from its body (R167). -/
theorem exec_taken_exempt (hb : commandBody i = some (p, c, b)) (h : s.canTake p i) (hx : openExempt c = true) :
    exec i s = answers p c (b (s.heard p i)).2.status (b (s.heard p i)).2.payload (b (s.heard p i)).1 := by
  rw [exec_of_commandBody hb, take_of_exempt h hx]
  rfl

/-- A leader's command that can be taken is answered from its body (R56, R164). -/
theorem exec_led (hb : commandBody i = some (p, c, asLeader p b)) (h : s.canLead p i) :
    exec i s = answers p c (b (s.heard p i)).2.status (b (s.heard p i)).2.payload (b (s.heard p i)).1 := by
  rw [exec_of_commandBody hb, take_of_canLead h]

/-- With the clear ended, a pattern or player command is answered from its body (R121, R164). -/
theorem exec_cleared (hb : commandBody i = some (p, c, afterClear b)) (h : s.canCommand p i)
    (hclear : s.clearing = false) :
    exec i s = answers p c (b (s.heard p i)).2.status (b (s.heard p i)).2.payload (b (s.heard p i)).1 := by
  rw [exec_of_commandBody hb, take_of_canCommand h, afterClear_of_done (by simpa using hclear)]
  rfl

end Taken

/-! ### Right after reset -/

/-- The machine right after reset is the one RESET makes, with RST released: what does not depend on RST holds in
the one when the step lemmas give it for the other. -/
theorem holds_at_reset {P : State → Prop} {D : List Block} (hP : DependsOn D P)
    (h : ∀ u, EventDoes State.reset u .reset → P u) (hD : Block.rst ∉ D := by simp) : P State.reset := by
  refine hP.keep (s := { State.reset with rstLow := true }) (bs := [.rst]) ?_ (h _ rfl) fun b hb hr => hD (List.mem_singleton.1 hr ▸ hb)
  rintro ⟨⟩ <;> simp [Block.Same, State.port]

/-- Settles O59, from what the step lemmas give for RESET. -/
theorem everythingKeptHoldsAtReset : Obligations.EverythingKeptHoldsAtReset := by
  have hcues : State.reset.CuesLegal := by simp [State.CuesLegal, State.reset]
  have hpatterns : State.reset.PatternsSound :=
    ⟨by decide, fun i => by simpa [State.player, State.reset] using Player.reset_sound⟩
  have hpool := holds_at_reset poolInv_dependsOn fun u => State.PoolInv.reset
  obtain ⟨hmem, hplayers⟩ := (patternsSound_iff _).2 ⟨hpatterns, hcues⟩
  refine ⟨(gridInv_iff _).2 ⟨?_, hcues⟩, ⟨(runInv_iff _).2 ?_, (queueInv_iff _).2 (State.QueueSound.of_stopped rfl rfl)⟩,
    (leadSound_iff _).2 ?_, hpool, ⟨hmem, hplayers⟩, laneInv_reset, ?_, claimsInv_of_reset rfl rfl,
    (noticeInv_iff _).2 (noticesSound_of_reset rfl rfl)⟩
  · exact holds_at_reset gridSound_dependsOn fun u => State.GridSound.reset
  · exact holds_at_reset runSound_dependsOn fun u => State.RunSound.reset
  · exact holds_at_reset leadSound_dependsOn fun u => State.LeadSound.reset
  · intro p
    have hport : State.reset.port p = DeskPort.reset := by simp [State.port, State.reset]
    rw [hport, DeskPort.legal_iff]
    exact ⟨.reset, .reset⟩

/-! ### The profile and the identity -/

theorem readFlag_of_le {b : Byte} (h : b.toNat ≤ 1) : readFlag b = some (decide (b = 1)) := by
  obtain rfl | rfl := (byte_le_one b).1 h <;> rfl

theorem readFlag_of_lt {b : Byte} (h : 1 < b.toNat) : readFlag b = none := by
  unfold readFlag
  split
  · omega
  · omega
  · rfl

/-- What of a profile report is the port's own: the eligible flag, the rank, the silence limit and the attention
enable as SET_PROFILE carries them (R171). -/
structure DeskPort.Carries (d : DeskPort) (e r l a : Byte) : Prop where
  eligible : d.eligible = decide (e = 1)
  rank : d.rank = r.toNat
  limit : d.silenceLimit = min 100 l.toNat
  attention : d.attention = decide (a = 1)

theorem flagByte_decide {b : Byte} (h : b.toNat ≤ 1) : flagByte (decide (b = 1)) = [b] := by
  obtain rfl | rfl := (byte_le_one b).1 h <;> rfl

/-- A profile of the bytes carried is reported as they are, but for the silence limit brought to 100. -/
theorem DeskPort.Carries.bytes {d : DeskPort} {e r l a : Byte} (h : d.Carries e r l a) (he : e.toNat ≤ 1)
    (ha : a.toNat ≤ 1) : d.profileBytes = [e, r, BitVec.ofNat 8 (min 100 l.toNat), a] := by
  unfold DeskPort.profileBytes
  rw [h.eligible, h.rank, h.limit, h.attention, flagByte_decide he, flagByte_decide ha]
  simp [byte, toBytes]

/-- The lock of R57, as the leader or the bidder meets it. -/
theorem State.profileLocked_iff (s : State) (p : Port) {e : Byte} (he : e.toNat ≤ 1) (r : Nat) :
    s.profileLocked p (decide (e = 1)) r = true ↔
      (s.arbiter.leader = .port p ∨ ∃ b, s.arbiter.slot = some b ∧ b.bidder = p)
        ∧ (((s.port p).eligible = true ∧ e = 0) ∨ r ≠ (s.port p).rank) := by
  have hbids : s.bids p = true ↔ ∃ b, s.arbiter.slot = some b ∧ b.bidder = p := by
    cases h : s.arbiter.slot <;> simp [State.bids, h]
  obtain rfl | rfl := (byte_le_one e).1 he <;> simp [State.profileLocked, State.leads, hbids]

/-- SET_PROFILE is refused RANGE for an unknown flag or rank (R171). -/
theorem setProfileBody_refused {e r a : Byte} (h : 1 < e.toNat ∨ 3 < r.toNat ∨ 1 < a.toNat) (p : Port) (l : Byte)
    (s : State) : setProfileBody p e r l a s = (s, .bare .range) := by
  have hnone : readFlag e = none ∨ readRank r = none ∨ readFlag a = none :=
    h.imp readFlag_of_lt (.imp (fun h => if_neg (by omega)) readFlag_of_lt)
  unfold setProfileBody
  split
  · next h1 h2 h3 => simp [h1, h2, h3] at hnone
  · rfl

/-- SET_PROFILE with known flags and rank is refused LOCKED under R57, and is taken otherwise (R171). -/
theorem setProfileBody_known {e r a : Byte} (he : e.toNat ≤ 1) (hr : r.toNat ≤ 3) (ha : a.toNat ≤ 1) (p : Port)
    (l : Byte) (s : State) :
    setProfileBody p e r l a s =
      if s.profileLocked p (decide (e = 1)) r.toNat then (s, .bare .locked)
      else (s.takeProfile p (decide (e = 1)) r.toNat (min 100 l.toNat) (decide (a = 1)),
        ⟨if 100 < l.toNat then .clamped else .ok, [e, r, BitVec.ofNat 8 (min 100 l.toNat), a]⟩) := by
  have hlimit : (clampNat 0 Config.silenceMax l.toNat).1 = min 100 l.toNat := by
    simp [clampNat, Config.silenceMax]
  have hclamped : takenStatus (clampNat 0 Config.silenceMax l.toNat).2 = if 100 < l.toNat then .clamped else .ok := by
    by_cases h : 100 < l.toNat
    · simp [takenStatus, clampNat, Config.silenceMax, h]
    · simp [takenStatus, clampNat, Config.silenceMax, h]
  have hcarries : ∀ u, u = s.takeProfile p (decide (e = 1)) r.toNat (min 100 l.toNat) (decide (a = 1)) →
      (u.port p).Carries e r l a := by
    rintro u rfl
    constructor <;> simp [State.takeProfile]
  unfold setProfileBody
  rw [readFlag_of_le he, readFlag_of_le ha, readRank, if_pos hr]
  dsimp only
  rw [hlimit, hclamped, (hcarries _ rfl).bytes he ha]
  rfl

/-- Settles O10, by the checks of R171 in their order. -/
theorem profileIsTakenLockedAndRead : Obligations.ProfileIsTakenLockedAndRead := by
  refine ⟨fun p e r l a s hcan => ?_, fun p s hcan => ?_, fun p s hcan => ?_⟩
  · dsimp only
    rw [exec_taken rfl hcan]
    have hlock := State.profileLocked_iff (s.heard p (.setProfile p e r l a)) p (e := e) (r := r.toNat)
    refine ⟨fun hbad => by rw [setProfileBody_refused hbad]; rfl, fun he hr ha => ⟨fun h => ?_, fun h => ?_⟩⟩
    · rw [setProfileBody_known he hr ha, if_pos ((hlock he).2 (by simpa using h))]; rfl
    · rw [setProfileBody_known he hr ha, if_neg (mt (hlock he).1 (by simpa using h))]; rfl
  · dsimp only
    rw [exec_taken rfl hcan]
    simp [readProfileBody, DeskPort.profileBytes, NoticeQueue.settingBytes, flagByte, byte, State.leads, State.cueCount,
      List.countP_eq_length_filter]
  · exact exec_taken_exempt rfl hcan rfl

end Sys2Proof.Machine

/-! PROOF. Grid arithmetic, continued (sections 1.4 to 1.7): the landing of a glide, the leader's commands on the
tempo engine, and the advance of the generator position. -/

namespace Sys2Proof.Machine

/-! ### The glide -/

/-- `f` is the engine `e` after `k` records of its glide: `k` steps on, with `k` records fewer to go (R9). -/
structure Engine.Glided (e : Engine) (k : Nat) (f : Engine) : Prop where
  interval : (f.interval : Int) = e.interval + k * e.glideStep
  count : f.glideCount = e.glideCount - k
  target : f.glideTarget = e.glideTarget
  step : f.glideStep = e.glideStep

/-- The steps of a glide that does not overshoot stay between its interval and its target (R9). -/
theorem Engine.GlideLegal.between {e : Engine} (h : e.GlideLegal) {k : Nat} (hk : k ≤ e.glideCount) :
    ((min e.interval e.glideTarget : Nat) : Int) ≤ e.interval + k * e.glideStep
      ∧ (e.interval : Int) + k * e.glideStep ≤ (max e.interval e.glideTarget : Nat) := by
  have hk0 : (0 : Int) ≤ k := Int.natCast_nonneg k
  have hkn : (k : Int) ≤ e.glideCount := by exact_mod_cast hk
  rw [Nat.cast_min, Nat.cast_max]
  obtain ⟨h1, h2⟩ | ⟨h1, h2⟩ := h
  · have h3 : 0 ≤ (k : Int) * e.glideStep := mul_nonneg hk0 h1
    have h4 : (k : Int) * e.glideStep ≤ e.glideStep * e.glideCount := by
      rw [mul_comm]; exact mul_le_mul_of_nonneg_left hkn h1
    omega
  · have h3 : (k : Int) * e.glideStep ≤ 0 := mul_nonpos_of_nonneg_of_nonpos hk0 h1
    have h4 : e.glideStep * e.glideCount ≤ (k : Int) * e.glideStep := by
      rw [mul_comm (k : Int)]; exact mul_le_mul_of_nonpos_left hkn h1
    omega

/-- A record with more than one left of the glide takes the interval a step on (R9). -/
theorem Engine.afterRecord_of_gliding {e : Engine} (h : 1 < e.glideCount) :
    e.afterRecord.interval = ((e.interval : Int) + e.glideStep).toNat
      ∧ e.afterRecord.glideCount = e.glideCount - 1 ∧ e.afterRecord.glideTarget = e.glideTarget
      ∧ e.afterRecord.glideStep = e.glideStep := by
  simp [Engine.afterRecord, h]

/-- The last record of the glide takes the interval to the target (R9). -/
theorem Engine.afterRecord_of_landing {e : Engine} (h : e.glideCount = 1) :
    e.afterRecord.interval = e.glideTarget ∧ e.afterRecord.glideCount = 0 := by
  simp [Engine.afterRecord, h]

theorem Engine.glided {e : Engine} (h : e.GlideLegal) (k : Nat) (hk : k < e.glideCount) :
    e.Glided k (Engine.afterRecord^[k] e) := by
  induction k with
  | zero => exact ⟨by simp, rfl, rfl, rfl⟩
  | succ k ih =>
    obtain ⟨hi, hn, ht, hs⟩ := ih (by omega)
    obtain ⟨hi', hn', ht', hs'⟩ := Engine.afterRecord_of_gliding (e := Engine.afterRecord^[k] e) (by omega)
    have hnext : ((e.interval : Int) + k * e.glideStep) + e.glideStep = e.interval + (k + 1 : Nat) * e.glideStep := by
      push_cast; ring
    have hlo := (h.between (k := k + 1) hk.le).1
    rw [Function.iterate_succ_apply']
    refine ⟨?_, by rw [hn', hn]; omega, ht'.trans ht, hs'.trans hs⟩
    rw [hi', hi, hs, hnext, Int.toNat_of_nonneg (by omega)]

/-- Settles O14, record by record. -/
theorem glideLandsOnItsTarget : Obligations.GlideLandsOnItsTarget := by
  intro e he hn
  obtain ⟨-, -, -, hlegal, -⟩ := he
  have hglide := hlegal hn
  constructor
  · intro k hk
    obtain ⟨hi, hc, -, -⟩ := Engine.glided hglide k hk
    have hb := hglide.between hk.le
    exact ⟨hi, hc, by omega, by omega⟩
  · obtain ⟨k, hk⟩ := Nat.exists_eq_add_of_lt hn
    have hlast : e.glideCount = k + 1 := by omega
    obtain ⟨-, hc, ht, -⟩ := Engine.glided hglide k (by omega)
    obtain ⟨hi', hc'⟩ := Engine.afterRecord_of_landing (e := Engine.afterRecord^[k] e) (by omega)
    rw [hlast, Function.iterate_succ_apply', hi', hc', ht]
    exact ⟨rfl, rfl⟩

/-! ### The leader's commands on the engine -/

/-- A clamp says OK exactly where it leaves the value alone. -/
theorem takenStatus_clampNat {lo hi v : Nat} (h : lo ≤ hi) :
    takenStatus (clampNat lo hi v).2 = if v = max lo (min hi v) then .ok else .clamped := by
  obtain ⟨-, -, hk⟩ := clampNat_spec (v := v) h
  unfold takenStatus
  by_cases hv : v = max lo (min hi v)
  · rw [if_pos hv, if_neg (by rw [Bool.not_eq_true]; exact hk.2 hv.symm)]
  · rw [if_neg hv, if_pos (by rw [← Bool.not_eq_false]; exact fun h => hv (hk.1 h).symm)]

/-- Two clamps say OK together exactly where both do. -/
theorem takenStatus_or {a b : Bool} {P Q : Prop} [Decidable P] [Decidable Q]
    (ha : takenStatus a = if P then .ok else .clamped) (hb : takenStatus b = if Q then .ok else .clamped) :
    takenStatus (a || b) = if P ∧ Q then .ok else .clamped := by
  by_cases hP : P <;> by_cases hQ : Q <;> cases a <;> cases b <;> simp_all [takenStatus]

/-- NUDGE's status is OK exactly where the slip takes the whole shift (R13, R14). -/
theorem takenStatus_addSlip (e : Engine) (g : Int) :
    takenStatus (e.addSlip g).2 = if (e.addSlip g).1.slip = e.slip + g then .ok else .clamped := by
  have hb : -e.halfBeat ≤ e.halfBeat := by unfold Engine.halfBeat; omega
  obtain ⟨-, -, hk⟩ := clampInt_spec (v := e.slip + g) hb
  unfold takenStatus
  by_cases hv : (e.addSlip g).1.slip = e.slip + g
  · rw [if_pos hv, if_neg (by rw [Bool.not_eq_true]; exact hk.2 hv)]
  · rw [if_neg hv, if_pos (by rw [← Bool.not_eq_false]; exact fun h => hv (hk.1 h))]

/-- Settles O15, command by command. -/
theorem leaderCommandsActOnTheEngine : Obligations.LeaderCommandsActOnTheEngine := by
  refine ⟨fun p c g s hcan => ?_, fun p d s hcan => ?_, fun p m s hcan => ?_⟩
  · intro v beats target
    rw [exec_led rfl hcan]
    have htempo : (clampTempo c).1 = v := rfl
    have hglide : (clampGlide g).1 = beats := Nat.zero_max _
    have hstatus : takenStatus ((clampTempo c).2 || (clampGlide g).2) =
        if c.toNat = v ∧ g.toNat = beats then .ok else .clamped := by
      refine takenStatus_or (takenStatus_clampNat (by decide)) ((takenStatus_clampNat (by decide)).trans ?_)
      simp [beats, Config.glideBeatsMax]
    rw [setTempoBody, htempo, hglide, hstatus, State.heard_engine]
    unfold Engine.startTempo
    rfl
  · intro sum bound slip
    rw [exec_led rfl hcan]
    unfold nudgeBody
    by_cases hd : d = 0
    · subst hd
      have hsum : slip = sum := by simp [slip, sum]
      have hslip : slip = s.engine.slip := if_pos rfl
      rw [if_pos rfl, if_pos hsum, hslip, State.heard_engine]
      rw [← State.heard_engine s p (.nudge p 0)]
      rfl
    · have hslip : ((s.engine.addSlip (d.toInt * 65536)).1) = { s.engine with slip := slip } := by
        rw [Engine.addSlip_engine]
        simp only [slip, if_neg hd]
        rfl
      rw [if_neg hd, State.heard_engine]
      dsimp only
      rw [takenStatus_addSlip, hslip]
      rfl
  · rw [exec_led rfl hcan]
    unfold setMeterBody
    split
    · simp [byte, toBytes]
    · rfl

/-! ### The generator position -/

theorem barAfter_of_lt {bar : Nat} (h : bar < 65535) : barAfter bar = ⟨bar + 1, 1, 0⟩ := if_pos h

theorem barAfter_of_last {bar : Nat} (h : ¬ bar < 65535) : barAfter bar = ⟨1, 1, 0⟩ := if_neg h

theorem Position.advance_of_pulse {m : Nat} {x : Position} (h : x.pulse < 95) :
    x.advance m = ⟨x.bar, x.beat, x.pulse + 1⟩ := if_pos h

theorem Position.advance_of_beat {m : Nat} {x : Position} (h : ¬ x.pulse < 95) (hb : x.beat < m) :
    x.advance m = ⟨x.bar, x.beat + 1, 0⟩ := by
  rw [Position.advance, if_neg h, if_pos hb]

theorem Position.advance_of_bar {m : Nat} {x : Position} (h : ¬ x.pulse < 95) (hb : ¬ x.beat < m) :
    x.advance m = barAfter x.bar := by
  rw [Position.advance, if_neg h, if_neg hb]

theorem barAfter_barStart (bar : Nat) : (barAfter bar).barStart = true := by
  unfold barAfter
  split <;> rfl

/-- Settles O16, by the three branches of the advance. -/
theorem positionAdvancesThroughTheBar : Obligations.PositionAdvancesThroughTheBar := by
  intro m x hx
  have hlegal := hx.advance (hx.2.2.1.trans hx.2.2.2.1)
  obtain ⟨hbar, hbar', hbeat, hbeat', hpulse⟩ := hx
  refine ⟨Position.advance_of_pulse, fun h => Position.advance_of_beat (by omega), fun h hb hlt => ?_,
    fun h hb hlast => ?_, hlegal, ?_, ?_, ?_⟩
  · rw [Position.advance_of_bar (by omega) (by omega), barAfter_of_lt hlt]
  · rw [Position.advance_of_bar (by omega) (by omega), barAfter_of_last (by omega)]
  · unfold Position.index
    omega
  · by_cases hp : x.pulse < 95
    · rw [Position.advance_of_pulse hp]
      exact .inl rfl
    · by_cases hb : x.beat < m
      · rw [Position.advance_of_beat hp hb]
        exact .inl (by simp only [Position.index]; omega)
      · rw [Position.advance_of_bar hp hb]
        exact .inr (barAfter_barStart x.bar)
  · simp only [Position.barStart, Position.index, Bool.and_eq_true, decide_eq_true_eq]
    omega

end Sys2Proof.Machine

/-! PROOF. START and STOP (sections 2.2 and 2.4), the relocations and SET_HORIZON (section 2.5), and the snapshots
(sections 2.6 and 4.8). -/

namespace Sys2Proof.Machine

/-! ### START -/

/-- The launch time START takes: the time carried between now + H and now + 60 s, 0 asking for the earliest (R26). -/
def State.launchTaken (s : State) (l : Time) : Time :=
  let soon : Time := s.houseTime + BitVec.ofNat 64 (s.transport.horizonMs * 1000)
  let late : Time := s.houseTime + 60000000
  if l = 0 then soon else if l.toNat < soon.toNat then soon else if late.toNat < l.toNat then late else l

/-- START says OK where it takes the time carried, or is given none (R26). -/
def State.launchStatus (s : State) (l : Time) : Status :=
  let soon : Time := s.houseTime + BitVec.ofNat 64 (s.transport.horizonMs * 1000)
  let late : Time := s.houseTime + 60000000
  if l = 0 ∨ (soon.toNat ≤ l.toNat ∧ l.toNat ≤ late.toNat) then .ok else .clamped

theorem State.launchFor_eq (s : State) (l : Time) : s.launchFor l = (s.launchTaken l, s.launchStatus l) := by
  unfold State.launchFor State.launchTaken State.launchStatus
  have hsoon : later s.houseTime s.horizonUs = s.houseTime + BitVec.ofNat 64 (s.transport.horizonMs * 1000) := rfl
  have hlate : later s.houseTime Config.launchSpan = s.houseTime + 60000000 := rfl
  rw [hsoon, hlate]
  generalize s.houseTime + BitVec.ofNat 64 (s.transport.horizonMs * 1000) = soon
  generalize s.houseTime + 60000000 = late
  dsimp only
  by_cases h0 : l = 0
  · rw [if_pos h0, if_pos h0, if_pos (.inl h0)]
  · by_cases h1 : l.toNat < soon.toNat
    · rw [if_neg h0, if_neg h0, if_pos h1, if_pos h1, if_neg (not_or.2 ⟨h0, by omega⟩)]
    · by_cases h2 : late.toNat < l.toNat
      · rw [if_neg h0, if_neg h0, if_neg h1, if_neg h1, if_pos h2, if_pos h2, if_neg (not_or.2 ⟨h0, by omega⟩)]
      · rw [if_neg h0, if_neg h0, if_neg h1, if_neg h1, if_neg h2, if_neg h2, if_pos (.inr (by omega))]

/-- Settles O17, state by state. -/
theorem startFixesTheLaunchTime : Obligations.StartFixesTheLaunchTime := by
  intro p l s hcan u soon late taken st present
  have hfor : u.launchFor l = (taken, st) := by
    rw [State.launchFor_eq, State.launchTaken, State.launchStatus, State.heard_houseTime, State.heard_transport]
  have htr : u.transport = s.transport := State.heard_transport s p _
  have hpresent : u.launchBytes = present := by
    unfold State.launchBytes
    rw [htr]
    simp only [present]
    cases s.transport.launchTime <;> rfl
  rw [exec_led rfl hcan]
  refine ⟨fun h => ?_, fun h => ?_, fun h => ?_, fun h => ?_, fun h => ?_⟩ <;>
    rw [startBody, htr, h] <;> dsimp only
  · rw [hfor]; dsimp only [State.enter, State.withLaunch]; rw [htr]; rfl
  · rw [hfor]; dsimp only [State.withLaunch]; rw [htr]; rfl
  · rw [hpresent]
  · rw [hpresent]; rfl
  · rfl

/-! ### STOP -/

/-- The stop point a known quantize mode gives (R30). -/
def State.stopPlaceFor (s : State) (q : Byte) : Position :=
  let x := s.gen.position
  let bar : Position :=
    if x.beat = 1 ∧ x.pulse = 0 then x else if x.bar < 65535 then ⟨x.bar + 1, 1, 0⟩ else ⟨1, 1, 0⟩
  let beat : Position :=
    if x.pulse = 0 then x else if x.beat < s.engine.meter then ⟨x.bar, x.beat + 1, 0⟩ else bar
  if q = 0 then x else if q = 1 then beat else bar

theorem State.nextBarStart_eq (s : State) : s.nextBarStart =
    if s.gen.position.beat = 1 ∧ s.gen.position.pulse = 0 then s.gen.position
    else if s.gen.position.bar < 65535 then ⟨s.gen.position.bar + 1, 1, 0⟩ else ⟨1, 1, 0⟩ := by
  unfold State.nextBarStart
  by_cases h : s.gen.position.beat = 1 ∧ s.gen.position.pulse = 0
  · rw [if_pos h, if_pos (by simp [Position.barStart, h])]
  · rw [if_neg h, if_neg (by simpa [Position.barStart] using h)]
    rfl

/-- Off a beat start the meter of the beat is the one in effect (R20). -/
theorem State.meterHere_of_pulse {s : State} (h : s.gen.position.pulse ≠ 0) : s.meterHere = s.engine.meter := by
  unfold State.meterHere
  split
  · rw [if_neg (by simp [Position.barStart, h])]
  · rfl

theorem State.nextBeatStart_eq (s : State) : s.nextBeatStart =
    if s.gen.position.pulse = 0 then s.gen.position
    else if s.gen.position.beat < s.engine.meter then ⟨s.gen.position.bar, s.gen.position.beat + 1, 0⟩
    else s.nextBarStart := by
  unfold State.nextBeatStart
  by_cases h : s.gen.position.pulse = 0
  · rw [if_pos h, if_pos h]
  · rw [if_neg h, if_neg h, State.meterHere_of_pulse h]

theorem readQuantize_of_le {q : Byte} (h : q.toNat ≤ 2) (s : State) :
    ∃ m, readQuantize q = some m ∧ s.stopPointFor m = s.stopPlaceFor q := by
  have hq : q = 0 ∨ q = 1 ∨ q = 2 := by bv_omega
  unfold State.stopPlaceFor
  obtain rfl | rfl | rfl := hq
  · exact ⟨.now, rfl, rfl⟩
  · exact ⟨.nextBeat, rfl, by rw [State.stopPointFor, State.nextBeatStart_eq, State.nextBarStart_eq]; rfl⟩
  · exact ⟨.nextBar, rfl, by rw [State.stopPointFor, State.nextBarStart_eq]; rfl⟩

theorem readQuantize_of_lt {q : Byte} (h : 2 < q.toNat) : readQuantize q = none := by
  unfold readQuantize
  split
  · omega
  · omega
  · omega
  · rfl

/-- STOP with a known mode, by the transport's state (R30, R31). -/
theorem stopBody_known {q : Byte} (h : q.toNat ≤ 2) (s : State) : stopBody q s =
    match s.transport.state with
    | .stopped => (s, .bare .already)
    | .armed => (s.toStopped, .bare .ok)
    | .running => (s.setStop (s.stopPlaceFor q), ⟨.ok, positionBytes (s.stopPlaceFor q)⟩)
    | .stopPending => (s.setStop (s.stopPlaceFor q), ⟨.ok, positionBytes (s.stopPlaceFor q)⟩)
    | .draining => (s, .bare .already) := by
  obtain ⟨m, hm, hp⟩ := readQuantize_of_le h s
  unfold stopBody
  rw [hm, ← hp]
  rfl

theorem State.setStop_of_here {s : State} {x : Position} (h : x = s.gen.position) : s.setStop x = s.reachStop :=
  if_pos h

theorem State.setStop_of_running {s : State} {x : Position} (h : x ≠ s.gen.position)
    (hr : s.transport.state = .running) :
    s.setStop x = State.postAll { s with transport := { s.transport with state := .stopPending, stopPoint := some x } }
      (.transport .stopPending) := by
  unfold State.setStop
  rw [if_neg h, if_pos hr]
  rfl

theorem State.setStop_of_stopPending {s : State} {x : Position} (h : x ≠ s.gen.position)
    (hr : s.transport.state = .stopPending) :
    s.setStop x = { s with transport := { s.transport with stopPoint := some x } } := by
  unfold State.setStop
  rw [if_neg h, if_neg (by simp [hr])]

/-- Settles O18, by the mode and then by the state. -/
theorem stopSetsTheStopPoint : Obligations.StopSetsTheStopPoint := by
  intro p q s hcan u x bar beat y reply
  have htr : u.transport = s.transport := State.heard_transport s p _
  have hgen : u.gen = s.gen := State.heard_gen s p _
  have hplace : u.stopPlaceFor q = y := by
    rw [State.stopPlaceFor, hgen, State.heard_engine]
  have hreply : positionBytes y = reply := rfl
  rw [exec_led rfl hcan]
  refine ⟨fun h => ?_, fun h => ⟨fun hs => ?_, fun hs => ?_, fun hs hy => ?_, fun hs hy => ?_, fun hs hy => ?_⟩⟩
  · rw [stopBody, readQuantize_of_lt h]; rfl
  · rw [stopBody_known h, htr]
    obtain hs | hs := hs <;> rw [hs] <;> rfl
  · rw [stopBody_known h, htr, hs]
    dsimp only [State.toStopped, State.clearSlip, State.enter]
    rw [htr, State.heard_engine]
    rfl
  · have hset : u.setStop y = u.reachStop := State.setStop_of_here (by rw [hgen]; exact hy)
    rw [stopBody_known h, htr, hplace]
    obtain hs | hs := hs <;> rw [hs] <;> dsimp only <;> rw [hset, hreply]
  · rw [stopBody_known h, htr, hs, hplace]
    dsimp only
    rw [State.setStop_of_running (by rw [hgen]; exact hy) (by rw [htr]; exact hs), hreply, htr]
  · rw [stopBody_known h, htr, hs, hplace]
    dsimp only
    rw [State.setStop_of_stopPending (by rw [hgen]; exact hy) (by rw [htr]; exact hs), hreply, htr]

end Sys2Proof.Machine

/-! PROOF. The posting of notices (chapter 10): what a notice does to the port it goes to, and that it reaches no
other; SET_NOTICES and READ_NOTICES. -/

namespace Sys2Proof.Machine

/-! ### A port's mail -/

/-- Port `q`, its notice queue and house time are the same in two states: what a notice to the port can see and
change. -/
structure SameMail (q : Port) (s u : State) : Prop where
  port : s.port q = u.port q
  queue : s.noticeQueue q = u.noticeQueue q
  time : s.houseTime = u.houseTime

/-- The port takes a notice of this kind: it is open and has the kind enabled (R176, R178). -/
def State.TakesNotice (s : State) (p : Port) (b : NoticeBody) : Prop :=
  (s.port p).isOpen = true ∧ s.enables p b = true

theorem State.postAt_of_not {s : State} {p : Port} {b : NoticeBody} (h : ¬ s.TakesNotice p b) (x : Option Position) :
    s.postAt p b x = s := by
  unfold State.postAt State.give
  split
  · next he => rw [if_neg fun ho => h ⟨ho, he⟩]
  · rfl

theorem State.postAt_of_takes {s : State} {p : Port} {b : NoticeBody} (h : s.TakesNotice p b) (x : Option Position) :
    s.postAt p b x =
      (s.setNoticeQueue p ((s.noticeQueue p).append ⟨b, low32 s.houseTime, x⟩)).refreshAttn p := by
  rw [State.postAt, if_pos h.2, State.give, if_pos h.1]

/-- The queue after a notice holds one, this or an older one. -/
theorem NoticeQueue.append_ne_nil (q : NoticeQueue) (n : Notice) : (q.append n).queue ≠ [] := by
  rw [NoticeQueue.append_queue]
  split
  · exact List.append_ne_nil_of_right_ne_nil _ (List.cons_ne_nil _ _)
  · next h => intro he; rw [he] at h; exact h (by decide)

/-- A port that takes a notice: its queue has it appended, and ATTN is its attention enable (R177, R180). -/
theorem State.postAt_self {s : State} {p : Port} {b : NoticeBody} (h : s.TakesNotice p b) (x : Option Position) :
    (s.postAt p b x).noticeQueue p = (s.noticeQueue p).append ⟨b, low32 s.houseTime, x⟩
      ∧ (s.postAt p b x).port p = { s.port p with attn := (s.port p).attention } := by
  rw [State.postAt_of_takes h]
  have hqueue : ∀ d, (s.setNoticeQueue p d).noticeQueue p = d := fun d => by
    rw [State.setNoticeQueue_noticeQueue, if_pos rfl]
  refine ⟨by rw [State.refreshAttn_noticeQueue, hqueue], ?_⟩
  rw [State.refreshAttn_port, if_pos rfl, State.attnLevel, hqueue, State.setNoticeQueue_port]
  simp [NoticeQueue.append_ne_nil]

namespace SameMail

variable {q : Port} {s u v : State}

theorem refl (q : Port) (s : State) : SameMail q s s := ⟨rfl, rfl, rfl⟩

theorem symm (h : SameMail q s u) : SameMail q u s := ⟨h.port.symm, h.queue.symm, h.time.symm⟩

theorem trans (h : SameMail q s u) (h' : SameMail q u v) : SameMail q s v :=
  ⟨h.port.trans h'.port, h.queue.trans h'.queue, h.time.trans h'.time⟩

/-- A notice to another port leaves a port's mail. -/
theorem postAt_other {p : Port} (h : p ≠ q) (s : State) (b : NoticeBody) (x : Option Position) :
    SameMail q (s.postAt p b x) s := by
  by_cases ht : s.TakesNotice p b
  · rw [State.postAt_of_takes ht]
    refine ⟨?_, ?_, by simp⟩
    · rw [State.refreshAttn_port, if_neg h, State.setNoticeQueue_port]
    · rw [State.refreshAttn_noticeQueue, State.setNoticeQueue_noticeQueue, if_neg h]
  · rw [State.postAt_of_not ht]
    exact refl q s

/-- The same notice, to whichever port, leaves the same mail the same. -/
theorem postAt (h : SameMail q s u) (p : Port) (b : NoticeBody) (x : Option Position) :
    SameMail q (s.postAt p b x) (u.postAt p b x) := by
  by_cases hpq : p = q
  · subst hpq
    have hen : s.enables p b = u.enables p b := by rw [State.enables, h.queue]; rfl
    have hiff : s.TakesNotice p b ↔ u.TakesNotice p b := by rw [State.TakesNotice, h.port, hen]; rfl
    by_cases ht : s.TakesNotice p b
    · obtain ⟨hq, hp⟩ := State.postAt_self ht x
      obtain ⟨hq', hp'⟩ := State.postAt_self (hiff.1 ht) x
      exact ⟨by rw [hp, hp', h.port], by rw [hq, hq', h.queue, h.time], by simpa using h.time⟩
    · rw [State.postAt_of_not ht, State.postAt_of_not (mt hiff.2 ht)]
      exact h
  · exact ((postAt_other hpq s b x).trans h).trans (postAt_other hpq u b x).symm

/-- A notice that goes to every port leaves a port's mail as one to that port alone does. -/
theorem postAll (q : Port) (s : State) (b : NoticeBody) : SameMail q (s.postAll b) (s.post q b) := by
  have hskip : ∀ {p : Port} {v : State}, p ≠ q → SameMail q (v.post p b) v := fun h => postAt_other h _ b _
  have hkeep : ∀ {v w : State}, SameMail q v w → v.gen = w.gen → SameMail q (v.post q b) (w.post q b) := fun h hg => by
    rw [State.post, State.post, hg]
    exact h.postAt q b _
  unfold State.postAll Port.all
  simp only [List.foldl_cons, List.foldl_nil]
  cases q with
  | a => exact (hskip (by decide)).trans ((hskip (by decide)).trans (hskip (by decide)))
  | b => exact (hskip (by decide)).trans ((hskip (by decide)).trans (hkeep (hskip (by decide)) (by simp)))
  | c =>
    exact (hskip (by decide)).trans (hkeep ((hskip (by decide)).trans (hskip (by decide))) (by simp))
  | d =>
    exact hkeep ((hskip (by decide)).trans ((hskip (by decide)).trans (hskip (by decide)))) (by simp)

/-- A closed port's mail stands through every notice (R176). -/
theorem postAt_closed (h : (s.port q).isOpen = false) (p : Port) (b : NoticeBody) (x : Option Position) :
    SameMail q (s.postAt p b x) s := by
  by_cases hpq : p = q
  · subst hpq
    rw [State.postAt_of_not fun ht => by simp [ht.1] at h]
    exact refl p s
  · exact postAt_other hpq s b x

end SameMail

/-- The ports and the notice queues are the same where every port's mail is. -/
theorem ports_eq_of_sameMail {s u : State} (h : ∀ q, SameMail q s u) : s.ports = u.ports ∧ s.notices = u.notices := by
  have hidx : ∀ (i : Nat) (hi : i < 4), ∃ q : Port, q.idx = ⟨i, hi⟩ := by
    intro i hi
    obtain rfl | rfl | rfl | rfl : i = 0 ∨ i = 1 ∨ i = 2 ∨ i = 3 := by omega
    · exact ⟨.a, rfl⟩
    · exact ⟨.b, rfl⟩
    · exact ⟨.c, rfl⟩
    · exact ⟨.d, rfl⟩
  constructor <;> ext i hi <;> obtain ⟨q, hq⟩ := hidx i hi
  · simpa [State.port, hq] using (h q).port
  · simpa [State.noticeQueue, hq] using (h q).queue

/-! ### SET_NOTICES and READ_NOTICES -/

theorem readTiming_of_le {t : Byte} (h : t.toNat ≤ 1) :
    readTiming t = some (if t = 0 then .arm else .sound) := by
  obtain rfl | rfl := (byte_le_one t).1 h <;> rfl

theorem readTiming_of_lt {t : Byte} (h : 1 < t.toNat) : readTiming t = none := by
  unfold readTiming
  split
  · omega
  · omega
  · rfl

theorem timingCode_of_le {t : Byte} (h : t.toNat ≤ 1) :
    byte (Timing.code (if t = 0 then .arm else .sound)) = [t] := by
  obtain rfl | rfl := (byte_le_one t).1 h <;> rfl

/-- The kinds taken are HANDOVER_REQUEST and those of the set from 2 to 11 (R178). -/
theorem takenKinds_getLsbD (kinds : BitVec 16) {k : Nat} (hk : k < 16) :
    (takenKinds kinds).getLsbD k = (decide (k = 1) || (decide (2 ≤ k ∧ k ≤ 11) && kinds.getLsbD k)) := by
  rw [takenKinds, BitVec.getLsbD_or, BitVec.getLsbD_and]
  interval_cases k <;> simp

/-- READ_NOTICES leaves the queue without its oldest 8, and ATTN where more are left (R180, R181). -/
theorem State.dropNotices_eq (s : State) (p : Port) :
    s.dropNotices p =
      { s.setPort p { s.port p with
          attn := decide (8 < (s.noticeQueue p).queue.length) && (s.port p).attention } with
        notices := (s.setNoticeQueue p { s.noticeQueue p with
          queue := (s.noticeQueue p).queue.drop 8, overflowed := false }).notices } := by
  have hempty : ∀ l : List Notice, (!(l.drop 8).isEmpty) = decide (8 < l.length) := fun l => by
    rw [Bool.eq_iff_iff]
    simp
  unfold State.dropNotices State.refreshAttn State.attnLevel
  rw [State.setNoticeQueue_noticeQueue, if_pos rfl]
  dsimp only [Config.noticeBatch]
  rw [hempty]
  rfl

/-- Settles O50. -/
theorem noticesArePostedSetAndRead : Obligations.NoticesArePostedSetAndRead := by
  refine ⟨⟨fun p kinds timing s hcan => ?_, fun p s hcan => ?_⟩, fun p b x s => ?_⟩
  · intro u
    rw [exec_taken rfl hcan]
    refine ⟨fun h => by rw [setNoticesBody, readTiming_of_lt h]; rfl, fun h => ⟨takenKinds kinds, ?_, fun k => takenKinds_getLsbD kinds⟩⟩
    rw [setNoticesBody, readTiming_of_le h]
    dsimp only [NoticeQueue.settingBytes]
    rw [timingCode_of_le h, State.heard_noticeQueue]
  · intro u q
    rw [exec_taken rfl hcan, readNoticesBody, State.dropNotices_eq]
    dsimp only [NoticeQueue.batch, Config.noticeBatch]
    rw [State.heard_noticeQueue, List.length_take, State.heard_port_attention]
    simp [flagByte, byte, u, q, State.setNoticeQueue]
  · intro t q on
    have hon : s.TakesNotice p b ↔ on := by simp [State.TakesNotice, State.enables, on, q]
    have hframe := s.postAt_frame p b x
    refine ⟨fun h => State.postAt_of_not (mt hon.1 h) x, fun h hlt => ?_, fun h hge => ?_, fun h => ?_, fun r hr => ?_, hframe⟩
    · exact (State.postAt_self (hon.2 h) x).1.trans (if_pos hlt)
    · exact (State.postAt_self (hon.2 h) x).1.trans (if_neg (Nat.not_lt.2 hge))
    · exact (State.postAt_self (hon.2 h) x).2
    · have hother := SameMail.postAt_other (Ne.symm hr) s b x
      exact ⟨hother.queue, hother.port⟩

end Sys2Proof.Machine

/-! PROOF. LOCATE, GRID_RESET and SET_HORIZON (section 2.5), and the snapshots (sections 2.6 and 4.8). -/

namespace Sys2Proof.Machine

/-! ### Relocation -/

/-- Dropping the cues of a list tells each owner of its own with the position of the generator, and no other port
of anything (R117). -/
structure ToldOfDrops (cs : List Cue) (x : Position) (s u t : State) : Prop where
  told : ∀ q, SameMail q t (cs.foldl (fun v c =>
    v.postAt c.owner (.cueDropped c.id c.tag c.action.kind .relocated c.fire) (some x)) u)
  stands : ∀ q, (∀ c ∈ cs, c.owner ≠ q) → SameMail q t s

theorem toldOfDrops_foldl (cs : List Cue) {x : Position} {s u : State} (h : ∀ q, SameMail q s u)
    (hx : s.gen.position = x) : ToldOfDrops cs x s u
      (cs.foldl (fun s c => s.post c.owner (.cueDropped c.id c.tag c.action.kind .relocated c.fire)) s) := by
  induction cs generalizing s u with
  | nil => exact ⟨h, fun q _ => SameMail.refl q s⟩
  | cons c cs ih =>
    obtain ⟨htold, hstands⟩ := ih (s := s.post c.owner (.cueDropped c.id c.tag c.action.kind .relocated c.fire))
      (u := u.postAt c.owner (.cueDropped c.id c.tag c.action.kind .relocated c.fire) (some x))
      (fun q => by rw [State.post, hx]; exact (h q).postAt _ _ _) (by simpa using hx)
    refine ⟨htold, fun q hq => (hstands q fun d hd => hq d (List.mem_cons_of_mem c hd)).trans ?_⟩
    exact SameMail.postAt_other (hq c List.mem_cons_self) s _ _

/-- A relocation of the part `u` to the generator `g` drops every cue with the new position in the notices, and
changes no more (R35, R36, R117, log entry 13). -/
theorem State.relocate_spec (u : State) (g : Generator) :
    let t := State.dropAllCues { u with gen := g }
    let told := u.cues.foldl (fun v c =>
      v.postAt c.owner (.cueDropped c.id c.tag c.action.kind .relocated c.fire) (some g.position)) u
    t = { u with gen := g, cues := [], ports := t.ports, notices := t.notices }
      ∧ t.ports = told.ports ∧ t.notices = told.notices
      ∧ ∀ o, (∀ c ∈ u.cues, c.owner ≠ o) → t.noticeQueue o = u.noticeQueue o := by
  obtain ⟨htold, hstands⟩ := toldOfDrops_foldl u.cues (x := g.position) (s := { u with gen := g }) (u := u)
    (fun q => ⟨rfl, rfl, rfl⟩) rfl
  obtain ⟨hp, hn⟩ := ports_eq_of_sameMail htold
  exact ⟨State.dropAllCues_frame _, hp, hn, fun o ho => (hstands o ho).queue⟩

/-- The position LOCATE takes: a bar from 1, and a beat from 1 to the meter in effect (R35). -/
theorem State.locatePosition_eq (s : State) (bar : BitVec 16) (beat : Byte) :
    (s.locatePosition bar beat).1 = ⟨max 1 bar.toNat, max 1 (min s.engine.meter beat.toNat), 0⟩ := by
  have hlast : min Config.lastBar bar.toNat = bar.toNat := Nat.min_eq_right (by unfold Config.lastBar; omega)
  simp [State.locatePosition, clampNat, hlast]

/-- LOCATE is CLAMPED for bar 0, beat 0 and a beat beyond the meter (R35). -/
theorem State.locatePosition_status (s : State) (bar : BitVec 16) (beat : Byte) :
    takenStatus (s.locatePosition bar beat).2 =
      if bar = 0 ∨ beat = 0 ∨ s.engine.meter < beat.toNat then .clamped else .ok := by
  have hiff : (s.locatePosition bar beat).2 = true ↔ bar = 0 ∨ beat = 0 ∨ s.engine.meter < beat.toNat := by
    have hbar : bar = 0 ↔ bar.toNat = 0 := by bv_omega
    have hbeat : beat = 0 ↔ beat.toNat = 0 := by bv_omega
    have hwide : ¬ Config.lastBar < bar.toNat := by unfold Config.lastBar; omega
    simp only [hbar, hbeat]
    simp [State.locatePosition, clampNat, hwide]
  unfold takenStatus
  simp only [hiff]

theorem State.playersHome_player (s : State) (i : Fin 4) :
    s.playersHome.player i = if (s.player i).primed then (s.player i).goHome else s.player i := by
  simp [State.player, State.playersHome]

/-! ### SET_HORIZON -/

/-- Raising an offset below -H leaves the lane's other settings, and seats a lane that is not OFF (R149). -/
theorem State.raiseOffsets_lane (s : State) (l : Fin 16) :
    s.raiseOffsets.lane l =
      if (s.lane l).settings.offset < -(s.horizonUs : Int) then
        let raised : Lane :=
          { s.lane l with settings := { (s.lane l).settings with offset := -(s.horizonUs : Int) } }
        if (s.lane l).settings.mode = .off then raised else raised.seat l s.houseTime s.queue
      else s.lane l := by
  simp [State.raiseOffsets, State.lane]

/-- Seating a cursor leaves the settings. -/
theorem Lane.seat_settings (i : Fin 16) (now : Time) (q : List PulseRecord) (l : Lane) :
    (l.seat i now q).settings = l.settings := by
  have hpass : ∀ (rs : List PulseRecord) (d : Lane),
      (rs.foldl (fun l r => l.meet i now r) d).settings = d.settings := by
    intro rs
    induction rs with
    | nil => exact fun _ => rfl
    | cons r rs ih => exact fun d => (ih _).trans (d.meet_cursor_settings i now r).2
  unfold Lane.seat
  dsimp only
  split
  · rfl
  · rfl
  · split
    · rfl
    · exact hpass _ l

/-- Settles O20: the relocations by what a drop of every cue does, SET_HORIZON lane by lane. -/
theorem relocationAndHorizonInStoppedAlone : Obligations.RelocationAndHorizonInStoppedAlone := by
  unfold Obligations.RelocationAndHorizonInStoppedAlone
  intro told
  refine ⟨⟨fun p bar beat s hcan => ?_, fun p s hcan => ?_⟩, fun p ms s hcan => ?_⟩
  · intro u x
    have htr : u.transport = s.transport := State.heard_transport s p _
    have hmeter : u.engine = s.engine := State.heard_engine s p _
    have hcues : u.cues = s.cues := State.heard_cues s p _
    have hgen : u.gen = s.gen := State.heard_gen s p _
    have hx : (u.locatePosition bar beat).1 = x := by rw [State.locatePosition_eq, hmeter]
    rw [exec_led rfl hcan]
    refine ⟨fun h => by rw [locateBody, if_neg (by rw [htr]; exact h)]; rfl, fun h => ?_⟩
    have hstatus := u.locatePosition_status bar beat
    rw [hmeter] at hstatus
    rw [locateBody, if_pos (by rw [htr]; exact h)]
    dsimp only
    have hbytes : positionBytes x = toBytes 2 x.bar ++ toBytes 1 x.beat ++ [0] := by
      simp [positionBytes, byte, toBytes, x]
    rw [hx, hstatus, hgen, hbytes]
    obtain ⟨hframe, hports, hnotices, hstands⟩ := u.relocate_spec { s.gen with position := x }
    exact ⟨_, rfl, hframe, hports, hnotices, fun o ho =>
      (hstands o (by rw [hcues]; exact ho)).trans (State.heard_noticeQueue s p _ o)⟩
  · intro u
    have htr : u.transport = s.transport := State.heard_transport s p _
    have hcues : u.cues = s.cues := State.heard_cues s p _
    have hgen : u.gen = s.gen := State.heard_gen s p _
    have hplayer : ∀ i, u.player i = s.player i := State.heard_player s p _
    rw [exec_led rfl hcan]
    refine ⟨fun h => by rw [gridResetBody, if_neg (by rw [htr]; exact h)]; rfl, fun h => ?_⟩
    rw [gridResetBody, if_pos (by rw [htr]; exact h), hgen]
    obtain ⟨hframe, hports, hnotices, hstands⟩ := u.relocate_spec { s.gen with position := ⟨1, 1, 0⟩, pulse := 0 }
    set v := State.dropAllCues { u with gen := { s.gen with position := ⟨1, 1, 0⟩, pulse := 0 } }
    refine ⟨_, rfl, ?_, hports, hnotices, fun o ho =>
      (hstands o (by rw [hcues]; exact ho)).trans (State.heard_noticeQueue s p _ o), fun i => ?_⟩
    · exact congrArg (fun t : State => { t with players := v.playersHome.players }) hframe
    · have hsame : v.player i = s.player i := by rw [hframe]; exact hplayer i
      rw [State.playersHome_player, hsame]
  · intro u h low
    have htr : u.transport = s.transport := State.heard_transport s p _
    have hlane : ∀ l, u.lane l = s.lane l := State.heard_lane s p _
    have hh : (clampNat 0 Config.horizonMax ms.toNat).1 = h := Nat.zero_max _
    rw [exec_taken rfl hcan]
    refine ⟨fun hs => by rw [setHorizonBody, if_neg (by rw [htr]; exact hs)]; rfl, fun hs => ?_⟩
    have hstatus : takenStatus (clampNat 0 Config.horizonMax ms.toNat).2 = if 250 < ms.toNat then .clamped else .ok := by
      simp [takenStatus, clampNat, Config.horizonMax]
    rw [setHorizonBody, if_pos (by rw [htr]; exact hs)]
    dsimp only
    rw [hh, hstatus, htr]
    refine ⟨_, rfl, rfl, fun l => ?_⟩
    have hraise := State.raiseOffsets_lane { u with transport := { s.transport with horizonMs := h } } l
    have hsame : State.lane { u with transport := { s.transport with horizonMs := h } } l = s.lane l := hlane l
    have hlow : -((State.horizonUs { u with transport := { s.transport with horizonMs := h } } : Nat) : Int) = low := rfl
    rw [hsame, hlow] at hraise
    rw [hraise]
    by_cases hoff : (s.lane l).settings.offset < low
    · rw [if_pos hoff]
      have hmax : max low (s.lane l).settings.offset = low := max_eq_left hoff.le
      refine ⟨?_, fun hle => absurd hoff (by omega), fun _ => ⟨fun hm => if_pos hm, fun hm => ?_⟩⟩
      · rw [hmax]
        dsimp only
        split
        · rfl
        · rw [Lane.seat_settings]
      · dsimp only
        rw [if_neg hm]
        have htime : (State.houseTime { u with transport := { s.transport with horizonMs := h } }) = s.houseTime :=
          State.heard_houseTime s p _
        have hqueue : (State.queue { u with transport := { s.transport with horizonMs := h } }) = s.queue :=
          State.heard_queue s p _
        rw [htime, hqueue]
        exact Lane.seat_reseats l s.houseTime s.queue _
    · rw [if_neg hoff]
      have hmax : max low (s.lane l).settings.offset = (s.lane l).settings.offset := max_eq_right (by omega)
      exact ⟨by rw [hmax], fun _ => rfl, fun hlt => absurd hlt hoff⟩

/-! ### Snapshots -/

/-- Bit `k` of a presence byte is the `k`-th flag (R174). -/
theorem presence_spec {bs : List Bool} (h : bs.length ≤ 8) :
    ∃ b : Byte, presence bs = [b] ∧ ∀ k, b.getLsbD k = bs.getD k false := by
  have hbit : ∀ (bs : List Bool) (k : Nat),
      (bs.foldr (fun (b : Bool) (acc : Nat) => (if b then 1 else 0) + 2 * acc) 0).testBit k = bs.getD k false := by
    intro bs
    induction bs with
    | nil => simp
    | cons b bs ih =>
      intro k
      cases k with
      | zero => cases b <;> simp
      | succ k =>
        rw [List.foldr_cons, List.getD_cons_succ, ← ih k, Nat.testBit_succ]
        congr 1
        cases b
        · simp
        · simp; omega
  refine ⟨_, rfl, fun k => ?_⟩
  rw [BitVec.getLsbD_ofNat, hbit]
  by_cases hk : k < 8
  · simp [hk]
  · simp [hk, List.getElem?_eq_none (by omega : bs.length ≤ k)]

theorem length_optionBytes {α : Type} {w : Nat} {enc : α → List Byte} (h : ∀ a, (enc a).length = w) (o : Option α) :
    (optionBytes w enc o).length = w := by
  cases o with
  | none => simp [optionBytes]
  | some a => exact h a

@[simp] theorem length_positionBytes (x : Position) : (positionBytes x).length = 4 := by
  simp [positionBytes, byte]

@[simp] theorem length_recordSnapshot (r : PulseRecord) : r.snapshotBytes.length = 20 := by
  simp [PulseRecord.snapshotBytes, timeBytes]

/-- The snapshot has 62 bytes (section 9.6). -/
theorem State.length_snapshotBytes (s : State) : s.snapshotBytes.length = 62 := by
  simp [State.snapshotBytes, timeBytes, presence, byte, signedBytes, length_optionBytes]

theorem Bid.length_bytes (b : Bid) : b.bytes.length = 16 := by
  simp [Bid.bytes, byte, timeBytes]

theorem State.freewheel_iff (s : State) : s.freewheel = true ↔
    s.arbiter.leader = .nobody ∧ s.transport.state ∈ ([.running, .stopPending, .draining] : List TransportState) := by
  simp [State.freewheel]

/-- An absent number is sent as zeros (R174). -/
theorem optionBytes_getD {α : Type} {w : Nat} (f : α → Nat) (o : Option α) :
    optionBytes w (fun a => toBytes w (f a)) o = toBytes w ((o.map f).getD 0) := by
  cases o with
  | some a => rfl
  | none =>
    change List.replicate w 0 = toBytes w 0
    induction w with
    | zero => rfl
    | succ w ih => rw [toBytes, List.replicate_succ, ih]; simp

theorem optionBytes_position (o : Option Position) :
    optionBytes 4 positionBytes o = positionBytes (o.getD ⟨0, 0, 0⟩) := by
  cases o <;> rfl

/-- The silence timer of a port that does not lead stands through the end of its frames (R69). -/
theorem State.heard_silenceExpiry_of_not {s : State} {p : Port} {i : Instr} (h : s.arbiter.leader ≠ .port p) :
    (s.heard p i).arbiter.silenceExpiry = s.arbiter.silenceExpiry := by
  unfold State.heard
  split
  · rw [State.frameEnds_eq]
    exact if_neg h
  · rfl

/-- Settles O21: the snapshot field by field, and the arbiter's items by the leader and the slot. -/
theorem snapshotsReportThePart : Obligations.SnapshotsReportThePart := by
  unfold Obligations.SnapshotsReportThePart
  intro place
  refine ⟨fun p s hcan => ?_, fun p s hcan => ?_⟩
  · intro e sounding
    obtain ⟨present, hp, hbits⟩ := presence_spec (bs := [s.soundingRecord.isSome, s.transport.launchTime.isSome,
      s.transport.stopPoint.isSome, e.pendingMeter.isSome, s.freewheel]) (by simp)
    have hsnap : (s.heard p (.readPosition p)).snapshotBytes = s.snapshotBytes := by
      simp [State.snapshotBytes, State.soundingRecord, State.freewheel, State.reached]
    refine ⟨present, s.snapshotBytes, ?_, s.length_snapshotBytes, ?_, hbits 0, hbits 1, hbits 2, hbits 3, ?_, ?_⟩
    · rw [exec_taken_exempt rfl hcan rfl, readPositionBody, hsnap]
    · have hmeter : optionBytes 1 byte e.pendingMeter = toBytes 1 (e.pendingMeter.getD 0) := by
        cases e.pendingMeter <;> rfl
      have hlaunch : optionBytes 8 timeBytes s.transport.launchTime =
          toBytes 8 ((s.transport.launchTime.map BitVec.toNat).getD 0) := optionBytes_getD BitVec.toNat _
      rw [State.snapshotBytes, hp, optionBytes_position, hmeter, hlaunch]
      change _ ++ optionBytes 20 PulseRecord.snapshotBytes sounding = _
      cases sounding <;>
        simp only [List.flatMap_cons, List.flatMap_nil, List.append_nil, List.append_assoc] <;> rfl
    · rw [hbits 4]
      exact s.freewheel_iff
    · intro k hk
      rw [hbits k, List.getD_eq_default _ _ hk]
  · intro u a left
    obtain ⟨present, hp, hbits⟩ := presence_spec (bs := [u.leaderPort.isSome, u.leaderPort.isSome,
      u.arbiter.silenceExpiry.isSome, u.arbiter.slot.isSome, u.arbiter.waitExpiry.isSome]) (by simp)
    have hleft : ∀ t? : Option Time, optionBytes 4 u.msLeft t? = toBytes 4 (left t?) := fun t? => by
      have htime : u.houseTime = s.houseTime := State.heard_houseTime s p _
      have h := optionBytes_getD (w := 4) (fun t : Time => (t - u.houseTime).toNat / 1000) t?
      rw [htime] at h
      rw [← h, ← htime]
      rfl
    have hleader : ∀ rest, optionBytes 1 (fun q => byte (u.port q).rank) u.leaderPort
        ++ (optionBytes 1 (fun q => byte (u.port q).silenceLimit) u.leaderPort ++ rest) =
          (match a.leader with
            | .port y => toBytes 1 (s.port y).rank ++ toBytes 1 (s.port y).silenceLimit
            | _ => [0, 0]) ++ rest := by
      intro rest
      unfold State.leaderPort
      rw [← List.append_assoc]
      congr 1
      change optionBytes 1 _ (match a.leader with | .port y => some y | _ => none)
        ++ optionBytes 1 _ (match a.leader with | .port y => some y | _ => none) = _
      cases a.leader with
      | port y =>
        dsimp only [optionBytes]
        rw [State.heard_port_rank, State.heard_port_silenceLimit]
        rfl
      | _ => rfl
    have hslot : optionBytes 16 Bid.bytes u.arbiter.slot =
        (match u.arbiter.slot with
          | some x =>
            toBytes 1 (portCode (some x.bidder)) ++ toBytes 1 x.rank ++ toBytes 1 x.kind.code
              ++ toBytes 2 x.wait ++ toBytes 2 x.tempo ++ toBytes 8 x.beatRef.toNat ++ toBytes 1 x.glide
          | none => List.replicate 16 0) := by
      cases u.arbiter.slot <;> rfl
    have hlead : u.leaderPort.isSome = true ↔ ∃ y, a.leader = .port y := by
      unfold State.leaderPort
      change (match a.leader with | .port y => some y | _ => none).isSome = true ↔ _
      cases a.leader <;> simp
    have hexec : exec (.readLeadership p) s = answers p 0x27 .ok (readLeadershipBody p u).2.payload u :=
      exec_taken_exempt rfl hcan rfl
    refine ⟨present, _, hexec, ?_, ?_, ?_, hbits 2, hbits 3, hbits 4, State.heard_leader s p _, State.heard_slot s p _,
      State.heard_waitExpiry s p _, State.heard_silenceExpiry_of_not⟩
    · simp [readLeadershipBody, presence, byte, flagByte, length_optionBytes, State.msLeft, Bid.length_bytes]
    · dsimp only [readLeadershipBody]
      simp only [hp, hleft, hslot, List.append_assoc, hleader]
      rw [State.heard_port_eligible, State.heard_port_rank]
      rfl
    · intro k hk
      rw [hbits k]
      obtain rfl | rfl : k = 0 ∨ k = 1 := by omega
      · exact hlead
      · exact hlead

end Sys2Proof.Machine

/-! PROOF. Leadership (chapter 4): what a grant makes of the part, the phase of a matched grant, and the answers of
the leader and the bidder. -/

namespace Sys2Proof.Machine

/-! ### The leader field -/

/-- The lead passing to a port or to nobody changes follow mode of the tap that led alone (R89). -/
theorem State.setLeader_tap_of_not_tap (s : State) {l : Leader} (hl : ∀ t, l ≠ .tap t) (k : Fin 4) :
    (s.setLeader l).tap k =
      { s.tap k with follow := if s.arbiter.leader = .tap k then false else (s.tap k).follow } := by
  have e : (s.setLeader l).tap k = if s.arbiter.leader = .tap k ∨ l = .tap k
      then { s.tap k with follow := decide (l = .tap k) } else s.tap k := by
    simp [State.setLeader, State.tap, State.clearSlip]
  rw [e]
  by_cases h : s.arbiter.leader = .tap k
  · rw [if_pos (.inl h), if_pos h, decide_eq_false (hl k)]
  · rw [if_neg (not_or.2 ⟨h, hl k⟩), if_neg h]

/-- The taps are the same where each is. -/
theorem taps_eq_of_tap {s u : State} (h : ∀ k, s.tap k = u.tap k) : s.taps = u.taps := by
  ext i hi
  exact h ⟨i, hi⟩

/-- The lead passing from a port to a port or to nobody leaves the taps, and clears the slip (R22). -/
theorem State.setLeader_of_port {s : State} {y : Port} (h : s.arbiter.leader = .port y) {l : Leader}
    (hl : ∀ t, l ≠ .tap t) :
    s.setLeader l =
      { s with arbiter := { s.arbiter with leader := l }, engine := { s.engine with slip := 0 } } := by
  have htaps : (s.setLeader l).taps = s.taps := taps_eq_of_tap fun k => by
    rw [s.setLeader_tap_of_not_tap hl, if_neg (by simp [h])]
  exact congrArg (fun v => { s with
    arbiter := { s.arbiter with leader := l }, engine := { s.engine with slip := 0 }, taps := v }) htaps

/-- A port's lead given up to nobody (R66, R74): FREEWHEEL goes to every port. -/
theorem State.freewheels_of_port {s : State} {y : Port} (h : s.arbiter.leader = .port y) (r : FreewheelReason) :
    s.freewheels r = State.postAll { s with
      arbiter := { s.arbiter with leader := .nobody, silenceExpiry := none }
      engine := { s.engine with slip := 0 } } (.freewheel r (.port y)) := by
  rw [State.freewheels, State.setLeader_of_port h (by simp), h]
  rfl

/-! ### What posting leaves -/

/-- From `s` to `t` the ports and the notice queues alone can have changed. -/
def SameButMail (s t : State) : Prop := t = { s with ports := t.ports, notices := t.notices }

/-- Whatever of the part is not mail stands. -/
theorem SameButMail.stands {α : Type} {s t : State} (h : SameButMail s t) (f : State → α)
    (hf : ∀ (u : State) p n, f { u with ports := p, notices := n } = f u := by intros; rfl) : f t = f s := by
  have e : t = { s with ports := t.ports, notices := t.notices } := h
  rw [e, hf]

theorem SameButMail.refl (s : State) : SameButMail s s := rfl

theorem SameButMail.trans {s t u : State} (h : SameButMail s t) (h' : SameButMail t u) : SameButMail s u :=
  Eq.trans h' (congrArg (fun v : State => { v with ports := u.ports, notices := u.notices }) h)

/-- A port's record but for ATTN is the same in two states. -/
def SameButAttn (s u : State) : Prop := ∀ q, u.port q = { s.port q with attn := (u.port q).attn }

theorem SameButAttn.refl (s : State) : SameButAttn s s := fun _ => rfl

theorem SameButAttn.trans {s u v : State} (h : SameButAttn s u) (h' : SameButAttn u v) : SameButAttn s v := fun q =>
  (h' q).trans (congrArg (fun d : DeskPort => { d with attn := (v.port q).attn }) (h q))

theorem State.postAt_sameButAttn (s : State) (p : Port) (b : NoticeBody) (x : Option Position) :
    SameButAttn s (s.postAt p b x) := by
  intro q
  by_cases hpq : p = q
  · subst hpq
    by_cases ht : s.TakesNotice p b
    · rw [(State.postAt_self ht x).2]
    · rw [State.postAt_of_not ht]
  · rw [(SameMail.postAt_other hpq s b x).port]

/-! ### Grants -/

/-- The silence timer's expiry when port `x` comes to lead (R69). -/
def State.silenceFor (s : State) (x : Port) : Option Time :=
  if (s.port x).silenceLimit = 0 then none
  else some (s.houseTime + BitVec.ofNat 64 ((s.port x).silenceLimit * 100000))

/-- The part after a grant, but for the notices: the bidder leads, with the timers, the slot, the slip and the
engine as R61 and R62 give them. -/
def State.granted (s : State) (b : Bid) : State :=
  { s with
    arbiter := ⟨.port b.bidder, none, none, s.silenceFor b.bidder⟩
    taps := (s.setLeader (.port b.bidder)).taps
    engine :=
      match b.kind with
      | .plain => { s.engine with slip := 0 }
      | .matched => ({ s.engine with slip := 0 }.matchBid s.lastBeat b).1 }

/-- The LEAD_GRANTED notice of a grant (R75). -/
def State.grantNotice (s : State) (b : Bid) (route : Route) : NoticeBody :=
  match b.kind with
  | .plain => .leadGranted route .plain 0 0 none false
  | .matched =>
    let m := { s.engine with slip := 0 }.matchBid s.lastBeat b
    .leadGranted route .matched b.tempo b.glide m.2.1 m.2.2

/-- A grant is the change of the lead, then LOST to the old leader, then LEAD_GRANTED to the new one (R61). -/
theorem State.grant_eq (s : State) (b : Bid) (route : Route) :
    s.grant b route =
      ((s.granted b).grantLost s.arbiter.leader b route).post b.bidder (s.grantNotice b route) := by
  have hled : (((s.setLeader (.port b.bidder)).emptySlot.stopSilence).restartSilence b.bidder) =
      { s with
        arbiter := ⟨.port b.bidder, none, none, s.silenceFor b.bidder⟩
        taps := (s.setLeader (.port b.bidder)).taps
        engine := { s.engine with slip := 0 } } := by
    have hleads : (s.setLeader (.port b.bidder)).emptySlot.stopSilence.arbiter.leader = .port b.bidder := rfl
    rw [State.restartSilence, if_pos hleads]
    rfl
  unfold State.grant
  dsimp only
  rw [hled]
  unfold State.grantEngine State.granted State.grantNotice
  cases b.kind <;> rfl

/-- What a grant changes, item by item (R61, R62). -/
structure State.GrantChanges (s : State) (b : Bid) (t : State) : Prop where
  arbiter : t.arbiter = ⟨.port b.bidder, none, none, s.silenceFor b.bidder⟩
  taps : t.taps = (s.setLeader (.port b.bidder)).taps
  engine : t.engine = if b.kind = .plain then { s.engine with slip := 0 }
    else ({ s.engine with slip := 0 }.matchBid s.lastBeat b).1
  frame : SameButMail (s.granted b) t

theorem State.grantLost_frame (s : State) (l : Leader) (b : Bid) (route : Route) :
    SameButMail s (s.grantLost l b route) := by
  unfold State.grantLost
  split
  · exact State.postAt_frame s _ _ _
  · exact State.postAt_frame s _ _ _
  · rfl

theorem State.grant_changes (s : State) (b : Bid) (route : Route) : s.GrantChanges b (s.grant b route) := by
  have hframe : SameButMail (s.granted b) (s.grant b route) := by
    rw [State.grant_eq]
    exact ((s.granted b).grantLost_frame _ b route).trans (State.postAt_frame _ _ _ _)
  have hengine : (s.granted b).engine = if b.kind = .plain then { s.engine with slip := 0 }
      else ({ s.engine with slip := 0 }.matchBid s.lastBeat b).1 := by
    unfold State.granted
    cases b.kind <;> rfl
  exact ⟨hframe.stands State.arbiter, hframe.stands State.taps,
    (hframe.stands State.engine).trans hengine, hframe⟩

theorem State.grantNotice_eq (s : State) (b : Bid) (route : Route) :
    s.grantNotice b route = if b.kind = .plain then .leadGranted route .plain 0 0 none false
      else .leadGranted route .matched b.tempo b.glide ({ s.engine with slip := 0 }.matchBid s.lastBeat b).2.1
        ({ s.engine with slip := 0 }.matchBid s.lastBeat b).2.2 := by
  unfold State.grantNotice
  cases b.kind <;> rfl

theorem State.grantLost_sameButAttn (s : State) (l : Leader) (b : Bid) (route : Route) :
    SameButAttn s (s.grantLost l b route) := by
  unfold State.grantLost
  split
  · exact State.postAt_sameButAttn s _ _ _
  · exact State.postAt_sameButAttn s _ _ _
  · exact fun _ => rfl

/-- Only a port that led is told LOST (R61, R68, R70). -/
theorem State.grantLost_other {s : State} {l : Leader} {q : Port} (h : l ≠ .port q) (b : Bid) (route : Route) :
    SameMail q (s.grantLost l b route) s := by
  unfold State.grantLost
  split
  · next y => exact SameMail.postAt_other (fun e => h (congrArg Leader.port e)) s _ _
  · next y => exact SameMail.postAt_other (fun e => h (congrArg Leader.port e)) s _ _
  · exact SameMail.refl q s

/-- Only a port deposed or silent is told LOST (R61). -/
theorem State.grantLost_of_route {s : State} {l : Leader} {route : Route} (h : route ≠ .deposed) (h' : route ≠ .silent)
    (b : Bid) : s.grantLost l b route = s := by
  unfold State.grantLost
  split
  · exact absurd rfl h
  · exact absurd rfl h'
  · rfl

/-- A port that takes a notice with room in its queue has it at the queue's end (R177). -/
theorem State.post_queue_of_room {s : State} {p : Port} {b : NoticeBody} (ho : (s.port p).isOpen = true)
    (hroom : (s.noticeQueue p).queue.length < 16) (hen : (s.noticeQueue p).enabled.getLsbD b.code = true) :
    ((s.post p b).noticeQueue p).queue =
      (s.noticeQueue p).queue ++ [⟨b, s.houseTime.setWidth 32, some s.gen.position⟩] := by
  have ht : s.TakesNotice p b := ⟨ho, by simp [State.enables, hen]⟩
  rw [State.post, (State.postAt_self ht _).1, NoticeQueue.append_queue, if_pos hroom]
  rfl

/-- Settles O28: the grant's changes, then the posts one after the other. -/
theorem grantMakesTheBidderLeader : Obligations.GrantMakesTheBidderLeader := by
  intro s b route t x limit m stamp
  obtain ⟨harb, htaps, hengine, -⟩ := s.grant_changes b route
  have hgrant : t = ((s.granted b).grantLost s.arbiter.leader b route).post x (s.grantNotice b route) :=
    s.grant_eq b route
  have hnotice := s.grantNotice_eq b route
  have hmail : ∀ q, SameMail q (s.granted b) s := fun q => ⟨rfl, rfl, rfl⟩
  have htaken : { s with arbiter := t.arbiter, taps := t.taps, engine := t.engine } = s.granted b := by
    have hengine' : t.engine = (s.granted b).engine := (s.grant_changes b route).frame.stands State.engine
    rw [harb, htaps, hengine']
    rfl
  have hlost : ∀ q, s.arbiter.leader ≠ .port q → SameMail q ((s.granted b).grantLost s.arbiter.leader b route) s :=
    fun q h => (State.grantLost_other h b route).trans (hmail q)
  have hother : ∀ q, q ≠ x → SameMail q t ((s.granted b).grantLost s.arbiter.leader b route) := fun q hq => by
    rw [hgrant]
    exact SameMail.postAt_other (Ne.symm hq) _ _ _
  refine ⟨harb, fun k => ?_, hengine, ?_, ?_, fun q hq hl => ?_, fun hl ho hroom hen => ?_, fun y hl hy => ⟨fun hd hs => ?_, fun ho hroom hen => ⟨fun hd => ?_, fun hs => ?_⟩⟩⟩
  · have htap : t.tap k = (s.setLeader (.port x)).tap k := congrArg (·[k]) htaps
    rw [htap, s.setLeader_tap_of_not_tap (by simp)]
  · dsimp only
    rw [htaken, hgrant, hnotice]
    rfl
  · have hattn : SameButAttn (s.granted b) t := by
      rw [hgrant]
      exact ((s.granted b).grantLost_sameButAttn _ b route).trans (State.postAt_sameButAttn _ _ _ _)
    exact hattn
  · exact ((hother q hq).trans (hlost q hl)).queue
  · have hmade : SameMail x t (s.post x (s.grantNotice b route)) := by
      have hgen : ((s.granted b).grantLost s.arbiter.leader b route).gen = s.gen :=
        ((s.granted b).grantLost_frame _ b route).stands State.gen
      rw [hgrant, State.post, State.post, hgen]
      exact (hlost x hl).postAt x _ _
    have hcode : (s.grantNotice b route).code = 2 := by rw [hnotice]; split <;> rfl
    rw [hmade.queue, State.post_queue_of_room ho hroom (by rw [hcode]; exact hen), hnotice]
  · have hstands := hother y hy
    rw [State.grantLost_of_route hd hs] at hstands
    exact hstands.queue
  · subst hd
    have htold : SameMail y t (s.post y (.lost .deposed (some x))) := by
      have hstands := hother y hy
      rw [hl] at hstands
      exact hstands.trans ((hmail y).postAt y _ _)
    rw [htold.queue, State.post_queue_of_room ho hroom (by exact hen)]
  · subst hs
    have htold : SameMail y t (s.post y (.lost .silent (some x))) := by
      have hstands := hother y hy
      rw [hl] at hstands
      exact hstands.trans ((hmail y).postAt y _ _)
    rw [htold.queue, State.post_queue_of_room ho hroom (by exact hen)]

end Sys2Proof.Machine

/-! PROOF. The bid, its answers and the arbiter's timers (sections 4.2 to 4.5). -/

namespace Sys2Proof.Machine

/-! ### BID -/

theorem byte_eq (n : Nat) : byte n = [BitVec.ofNat 8 n] := by
  simp [byte, toBytes]

/-- The bid a BID of port `p` makes: its fields brought to their limits, those of a PLAIN bid 0 (R58, R59). -/
def State.bidOf (s : State) (p : Port) (k : Byte) (w c : BitVec 16) (r : Time) (g : Byte) : Bid :=
  if k = 0 then ⟨p, (s.port p).rank, .plain, 0, 0, 0, min 600 w.toNat⟩
  else ⟨p, (s.port p).rank, .matched, max 2000 (min 30000 c.toNat), r, min 64 g.toNat, min 600 w.toNat⟩

/-- A BID's field has been brought to its limit (R59). -/
def bidCut (k : Byte) (w c : BitVec 16) (g : Byte) : Bool :=
  decide (w.toNat ≠ min 600 w.toNat
    ∨ (k = 1 ∧ (c.toNat ≠ max 2000 (min 30000 c.toNat) ∨ g.toNat ≠ min 64 g.toNat)))

theorem clampNat_cut (lo hi v : Nat) (h : lo ≤ hi) : (clampNat lo hi v).2 = decide (v ≠ max lo (min hi v)) := by
  rw [Bool.eq_iff_iff]
  simp only [clampNat, decide_eq_true_eq]
  omega

theorem readBidKind_of_lt {k : Byte} (h : 1 < k.toNat) : readBidKind k = none := by
  unfold readBidKind
  split
  · omega
  · omega
  · rfl

theorem makeBid_of_known {k : Byte} (h : k.toNat ≤ 1) (s : State) (p : Port) (w c : BitVec 16) (r : Time) (g : Byte) :
    ∃ kind, readBidKind k = some kind ∧ s.makeBid p kind w c r g = (s.bidOf p k w c r g, bidCut k w c g) := by
  have hw : (clampNat 0 Config.waitMax w.toNat).1 = min 600 w.toNat := Nat.zero_max _
  have hg : (clampGlide g).1 = min 64 g.toNat := Nat.zero_max _
  have hcutw : (clampNat 0 Config.waitMax w.toNat).2 = decide (w.toNat ≠ min 600 w.toNat) := by
    rw [clampNat_cut _ _ _ (by decide), Nat.zero_max]; rfl
  have hcutg : (clampGlide g).2 = decide (g.toNat ≠ min 64 g.toNat) := by
    rw [clampGlide, clampNat_cut _ _ _ (by decide), Nat.zero_max]; rfl
  have hcutc : (clampTempo c).2 = decide (c.toNat ≠ max 2000 (min 30000 c.toNat)) :=
    clampNat_cut _ _ _ (by decide)
  obtain rfl | rfl := (byte_le_one k).1 h
  · refine ⟨.plain, rfl, Prod.ext ?_ ?_⟩
    · simp only [State.makeBid, State.bidOf, hw]; rfl
    · simp [State.makeBid, bidCut, hcutw]
  · refine ⟨.matched, rfl, Prod.ext ?_ ?_⟩
    · simp only [State.makeBid, State.bidOf, hw, hg]; rfl
    · simp [State.makeBid, bidCut, hcutw, hcutg, hcutc, Bool.or_assoc]

/-- BID's checks: the kind, then the eligible flag, then the bid as it is made (R59). -/
theorem bidBody_known {k : Byte} (h : k.toNat ≤ 1) (p : Port) (w c : BitVec 16) (r : Time) (g : Byte) (s : State) :
    bidBody p k w c r g s =
      if (s.port p).eligible then placeBid (s.bidOf p k w c r g) (bidCut k w c g) s else (s, .bare .notEligible) := by
  obtain ⟨kind, hk, hm⟩ := makeBid_of_known h s p w c r g
  unfold bidBody
  rw [hk]
  dsimp only
  rw [hm]
  rfl

theorem State.bidOf_bidder (s : State) (p : Port) (k : Byte) (w c : BitVec 16) (r : Time) (g : Byte) :
    (s.bidOf p k w c r g).bidder = p ∧ (s.bidOf p k w c r g).rank = (s.port p).rank
      ∧ (s.bidOf p k w c r g).wait = min 600 w.toNat := by
  unfold State.bidOf
  split <;> exact ⟨rfl, rfl, rfl⟩

/-- A bid that enters the slot starts the wait timer afresh and is told to the leader (R67, R75). -/
theorem State.enterSlot_eq (s : State) (b : Bid) (y : Port) :
    s.enterSlot b y = State.post { s with arbiter := { s.arbiter with
        slot := some b
        waitExpiry := if b.wait = 0 then none else some (s.houseTime + BitVec.ofNat 64 (b.wait * 100000)) } } y
      (.handoverRequest b.bidder b.rank b.kind b.wait b.tempo b.glide) := rfl

theorem State.enterSlot_leader (s : State) (b : Bid) (y : Port) : (s.enterSlot b y).arbiter.leader = s.arbiter.leader := by
  rw [State.enterSlot_eq]
  simp

section Place

variable {b : Bid} {cut : Bool} {s : State} {y : Port}

/-- From the leader a bid is answered ALREADY (R59). -/
theorem placeBid_leader (h : s.arbiter.leader = .port b.bidder) : placeBid b cut s = bidAnswer b cut .already s := by
  unfold placeBid
  rw [h]
  exact if_pos rfl

/-- Where no port leads a bid is granted (R59). -/
theorem placeBid_free (h : ∀ y, s.arbiter.leader ≠ .port y) :
    placeBid b cut s = bidAnswer b cut .ok (s.grant b .immediate) := by
  unfold placeBid
  split
  · next y hy => exact absurd hy (h y)
  · rfl
  · rfl

/-- An empty slot, or one that holds the port's own bid, takes the bid (R59). -/
theorem placeBid_enters (h : s.arbiter.leader = .port y) (hy : y ≠ b.bidder)
    (hs : ∀ z, s.arbiter.slot = some z → z.bidder = b.bidder) :
    placeBid b cut s = bidAnswer b cut .pending (s.enterSlot b y) := by
  unfold placeBid
  rw [h]
  dsimp only
  rw [if_neg hy]
  split
  · rfl
  · next z hz => exact if_pos (hs z hz)

/-- A lower-ranked bid is displaced, and one of the same or a higher rank stands (R60). -/
theorem placeBid_contended (h : s.arbiter.leader = .port y) (hy : y ≠ b.bidder) {z : Bid} (hz : s.arbiter.slot = some z)
    (hne : z.bidder ≠ b.bidder) :
    placeBid b cut s = if z.rank < b.rank then
        bidAnswer b cut .pending ((s.post z.bidder (.lost .displaced (some b.bidder))).enterSlot b y)
      else (s, ⟨.lost, byte LostStage.contended.code ++ byte (portCode (some z.bidder))⟩) := by
  unfold placeBid
  rw [h, hz]
  dsimp only
  rw [if_neg hy, if_neg hne]

end Place

/-- Settles O27, by R59's table. -/
theorem bidIsGrantedPendedOrContended : Obligations.BidIsGrantedPendedOrContended := by
  intro p k w c r g s hcan i u rank wait tempo glide b cut reply enter
  have hexec := exec_taken (i := i) rfl hcan
  have hb : u.bidOf p k w c r g = b := by
    unfold State.bidOf
    rw [State.heard_port_rank]
  obtain ⟨hbidder, hrank, hwait⟩ := u.bidOf_bidder p k w c r g
  rw [hb] at hbidder hrank hwait
  rw [State.heard_port_rank] at hrank
  have hreply : ∀ (st : Status) (t : State), bidAnswer b cut st t = (t, ⟨st, reply t.arbiter.leader⟩) := fun st t => by
    rw [bidAnswer, hwait]
    rfl
  have hleader : u.arbiter.leader = s.arbiter.leader := State.heard_leader s p i
  have hslot : u.arbiter.slot = s.arbiter.slot := State.heard_slot s p i
  have henter : ∀ (y : Port) (t : State), t.houseTime = s.houseTime → t.enterSlot b y = enter y t := fun y t ht => by
    rw [State.enterSlot_eq, hbidder, hrank, hwait]
    simp only [enter, rank, wait, ht]
  have hplace : k.toNat ≤ 1 → (s.port p).eligible = true → exec i s =
      answers p 0x20 (placeBid b cut u).2.status (placeBid b cut u).2.payload (placeBid b cut u).1 := fun hk he => by
    rw [hexec, bidBody_known hk, if_pos (by rw [State.heard_port_eligible]; exact he), hb]
    rfl
  refine ⟨fun hk => ?_, fun hk he => ?_, fun hk he => ⟨fun hl => ?_, fun hl => ?_, fun y hl hy => ⟨fun hz => ?_, fun z hz hne =>
    ⟨fun hlt => ?_, fun hle => ?_⟩⟩⟩⟩
  · rw [hexec, bidBody, readBidKind_of_lt hk]
    rfl
  · rw [hexec, bidBody_known hk, if_neg (by rw [State.heard_port_eligible, he]; simp)]
    rfl
  · rw [hplace hk he, placeBid_leader (by rw [hleader, hbidder]; exact hl), hreply, hleader, hl]
  · rw [hplace hk he, placeBid_free (by rw [hleader]; exact hl), hreply, (u.grant_changes b .immediate).arbiter, hbidder]
  · rw [hplace hk he, placeBid_enters (hleader.trans hl) (by rw [hbidder]; exact hy) (by rw [hslot, hbidder]; exact hz), hreply,
      State.enterSlot_leader, hleader, hl, henter y u (State.heard_houseTime s p i)]
  · rw [hplace hk he, placeBid_contended (hleader.trans hl) (by rw [hbidder]; exact hy) (hslot.trans hz)
      (by rw [hbidder]; exact hne), hrank, if_pos hlt, hreply, State.enterSlot_leader, State.post_arbiter, hleader, hl, hbidder,
      henter y _ (by rw [State.post_houseTime]; exact State.heard_houseTime s p i)]
  · rw [hplace hk he, placeBid_contended (hleader.trans hl) (by rw [hbidder]; exact hy) (hslot.trans hz)
      (by rw [hbidder]; exact hne), hrank, if_neg (by omega), byte_eq, byte_eq]
    rfl

/-! ### The phase of a matched grant -/

/-- Settles O29: the remainder modulo the beat period, brought to the nearer side. -/
theorem matchedGrantTakesTheNearerPhase : Obligations.MatchedGrantTakesTheNearerPhase := by
  intro e beat b target e'
  have hstart : e.startTempo b.tempo b.glide = e' := rfl
  have hslip : e'.slip = e.slip := by
    simp only [e']
    split <;> rfl
  refine ⟨fun h => ?_, ?_⟩
  · subst h
    unfold Engine.matchBid
    rw [hstart]
    rfl
  · intro k h hlegal period bound
    subst h
    have hperiod : 0 < period := by
      have := (beatPeriod_range hlegal).1
      simp only [period]
      unfold beatPeriod at this
      omega
    have hlo := Int.emod_nonneg ((b.beatRef.toNat : Int) - (k.refTime.toNat : Int)) hperiod.ne'
    have hhi := Int.emod_lt_of_pos ((b.beatRef.toNat : Int) - (k.refTime.toNat : Int)) hperiod
    obtain ⟨d, hd⟩ : ∃ d, phaseDifference (some k) b.beatRef e'.interval = some d := ⟨_, rfl⟩
    have hvalue : d = if 2 * (((b.beatRef.toNat : Int) - (k.refTime.toNat : Int)) % period) > period
        then ((b.beatRef.toNat : Int) - (k.refTime.toNat : Int)) % period - period
        else ((b.beatRef.toNat : Int) - (k.refTime.toNat : Int)) % period := (Option.some.inj hd).symm
    refine ⟨d, phaseDifference_congr hd, ?_, ?_, ?_⟩
    · rw [hvalue]; split <;> omega
    · rw [hvalue]; split <;> omega
    · unfold Engine.matchBid
      rw [hstart]
      dsimp only
      rw [hd]
      dsimp only
      rw [Engine.addSlip_engine, hslip]
      unfold Engine.addSlip clampInt
      rw [hslip]
      rfl

/-! ### Answers from the leader and the bidder -/

theorem State.grant_leaderCode (s : State) (b : Bid) (route : Route) :
    byte (s.grant b route).arbiter.leader.code = [BitVec.ofNat 8 (b.bidder.idx.val + 1)] := by
  rw [(s.grant_changes b route).arbiter, byte_eq]
  rfl

/-- The lead passing from a port to a tap takes the tap into follow mode (R71). -/
theorem State.setLeader_tap_of_port {s : State} {y : Port} (h : s.arbiter.leader = .port y) (k : Fin 4) :
    (s.setLeader (.tap k)).stopSilence =
      { s.setTap k { s.tap k with follow := true } with
        arbiter := { s.arbiter with leader := .tap k, silenceExpiry := none }
        engine := { s.engine with slip := 0 } } := by
  have htaps : (s.setLeader (.tap k)).taps = (s.setTap k { s.tap k with follow := true }).taps :=
    taps_eq_of_tap fun j => by
      have e : (s.setLeader (.tap k)).tap j = if s.arbiter.leader = .tap j ∨ Leader.tap k = .tap j
          then { s.tap j with follow := decide (Leader.tap k = .tap j) } else s.tap j := by
        simp [State.setLeader, State.tap, State.clearSlip]
      rw [e, State.setTap_tap]
      by_cases hk : k = j
      · subst hk
        rw [if_pos (.inr rfl), if_pos rfl, decide_eq_true rfl]
      · rw [if_neg (by simp [h, hk]), if_neg hk]
  exact congrArg (fun v => { s with
    arbiter := { s.arbiter with leader := .tap k, silenceExpiry := none }
    engine := { s.engine with slip := 0 }, taps := v }) htaps

/-- Settles O30, command by command. -/
theorem leaderAnswersTheBid : Obligations.LeaderAnswersTheBid := by
  refine ⟨fun p s hcan => ?_, fun p s hcan => ?_, fun p s hcan => ?_, fun p s hcan => ?_, fun p s hcan => ?_,
    fun p n s hcan => ?_⟩
  · intro u
    have hslot : u.arbiter.slot = s.arbiter.slot := State.heard_slot s p _
    rw [exec_led rfl hcan]
    refine ⟨fun h => by rw [yieldBody, hslot, h]; rfl, fun b h => ?_⟩
    rw [yieldBody, hslot, h]
    dsimp only
    rw [State.grant_leaderCode]
  · intro u
    have hslot : u.arbiter.slot = s.arbiter.slot := State.heard_slot s p _
    rw [exec_led rfl hcan]
    exact ⟨fun h => by rw [refuseBody, hslot, h]; rfl, fun b h => by rw [refuseBody, hslot, h]; rfl⟩
  · intro u
    have hslot : u.arbiter.slot = s.arbiter.slot := State.heard_slot s p _
    have hleader : u.arbiter.leader = .port p := State.heard_leader_of_canLead hcan
    have hengine : u.engine = s.engine := State.heard_engine s p _
    rw [exec_led rfl hcan]
    refine ⟨fun h => ?_, fun b h => ?_⟩
    · rw [releaseBody, hslot, h]
      dsimp only
      rw [State.freewheels_of_port hleader, hengine, State.postAll_arbiter, byte_eq]
      rfl
    · rw [releaseBody, hslot, h]
      dsimp only
      rw [State.grant_leaderCode]
  · intro u
    have hslot : u.arbiter.slot = s.arbiter.slot := State.heard_slot s p _
    rw [exec_taken rfl hcan]
    refine ⟨fun h => ?_, fun b h hb => ?_⟩
    · have hbids : u.bids p = false := by
        unfold State.bids
        rw [hslot]
        split
        · next b hb => exact decide_eq_false (h b hb)
        · rfl
      rw [withdrawBody, if_neg (by rw [hbids]; exact Bool.false_ne_true)]
      rfl
    · have hbids : u.bids p = true := by
        unfold State.bids
        rw [hslot, h]
        exact decide_eq_true hb
      rw [withdrawBody, if_pos hbids]
      rfl
  · rw [exec_led rfl hcan]
    rfl
  · intro u
    have hslot : u.arbiter.slot = s.arbiter.slot := State.heard_slot s p _
    have hleader : u.arbiter.leader = .port p := State.heard_leader_of_canLead hcan
    have htap : ∀ k, u.tap k = s.tap k := State.heard_tap s p _
    have hengine : u.engine = s.engine := State.heard_engine s p _
    rw [exec_led rfl hcan]
    refine ⟨fun h => ?_, fun k hk => ⟨fun h => ?_, fun h hs => ?_, fun h hs => ?_⟩⟩
    · rw [handToTapBody, readFour, dif_neg (by omega)]
      rfl
    · have hread : readFour n = some k := by rw [readFour, dif_pos (by omega)]; exact congrArg some (Fin.ext hk)
      rw [handToTapBody, hread]
      dsimp only
      rw [if_pos (by rw [hslot]; exact Option.isSome_iff_ne_none.2 h)]
      rfl
    · have hread : readFour n = some k := by rw [readFour, dif_pos (by omega)]; exact congrArg some (Fin.ext hk)
      rw [handToTapBody, hread]
      dsimp only
      rw [if_neg (by rw [hslot, h]; simp), if_neg (by rw [htap]; exact hs)]
      rfl
    · have hread : readFour n = some k := by rw [readFour, dif_pos (by omega)]; exact congrArg some (Fin.ext hk)
      rw [handToTapBody, hread]
      dsimp only
      rw [if_neg (by rw [hslot, h]; simp), if_pos (by rw [htap]; exact hs), State.setLeader_tap_of_port hleader, htap, hengine]
      rfl

/-! ### The timers -/

/-- An event set for an instant that has not come is not due (R1). -/
theorem State.due_eq_false {s : State} {o : Option Time} (h : ∀ t, o = some t → s.houseTime.toNat < t.toNat) :
    s.due o = false := by
  unfold State.due
  split
  · next t => exact decide_eq_false (by have := h t rfl; omega)
  · rfl

theorem State.due_eq_true {s : State} {o : Option Time} {t : Time} (ho : o = some t) (h : t.toNat ≤ s.houseTime.toNat) :
    s.due o = true := by
  subst ho
  exact decide_eq_true h

/-- Settles O31, timer by timer. -/
theorem arbiterTimersExpire : Obligations.ArbiterTimersExpire := by
  refine ⟨fun s h => ?_, fun t b y s ht hle hb hl => ?_, fun s h => ?_, fun t s ht hle => ⟨fun b hb => ?_, fun y hb hl => ?_⟩⟩
  · change execWaitTimerExpiry s = _
    unfold execWaitTimerExpiry
    split
    · exact if_neg (by simp [State.due_eq_false h])
    · rfl
  · have hrank : s.leaderRank = (s.port y).rank ∧ s.leaderPort = some y := by
      simp [State.leaderRank, State.leaderPort, hl]
    change execWaitTimerExpiry s = _
    unfold execWaitTimerExpiry
    rw [hb]
    dsimp only
    rw [if_pos (State.due_eq_true ht hle), State.waitExpires, hrank.1, hrank.2]
    rfl
  · change execSilenceTimerExpiry s = _
    exact if_neg (by simp [State.due_eq_false h])
  · change execSilenceTimerExpiry s = _
    rw [execSilenceTimerExpiry, if_pos (State.due_eq_true ht hle), State.silenceExpires, hb]
  · change execSilenceTimerExpiry s = _
    rw [execSilenceTimerExpiry, if_pos (State.due_eq_true ht hle), State.silenceExpires, hb, hl]
    dsimp only
    rw [State.setLeader_of_port hl (by simp)]
    rfl

end Sys2Proof.Machine

/-! PROOF. OPEN and CLOSE (section 9.4): what a close does to the lead, and what it tears down. -/

namespace Sys2Proof.Machine

/-! ### The arbiter's part of a close -/

/-- From `u` to `a` the lead, the engine, the taps and the mail alone can have changed. -/
def SameButLead (u a : State) : Prop :=
  a = { u with arbiter := a.arbiter, engine := a.engine, taps := a.taps, ports := a.ports, notices := a.notices }

theorem SameButLead.trans_mail {u v a : State} (h : SameButLead u v) (h' : SameButMail v a) : SameButLead u a := by
  have he : a.engine = v.engine := h'.stands State.engine
  have ha : a.arbiter = v.arbiter := h'.stands State.arbiter
  have ht : a.taps = v.taps := h'.stands State.taps
  unfold SameButLead
  rw [he, ha, ht]
  exact Eq.trans h' (congrArg (fun w : State => { w with ports := a.ports, notices := a.notices }) h)

theorem State.postAll_frame (s : State) (b : NoticeBody) : SameButMail s (s.postAll b) :=
  foldl_frame (fun s p => s.post p b) (fun s _ => State.postAt_frame s _ _ _) Port.all s

theorem State.postAll_sameButAttn (s : State) (b : NoticeBody) : SameButAttn s (s.postAll b) := fun q => by
  have h := (SameMail.postAll q s b).port
  have hpost := State.postAt_sameButAttn s q b (some s.gen.position) q
  rw [h]
  exact hpost

/-- What the arbiter's part of a close leaves in every case: the closing port's mail, every port's record but for
ATTN, and all but the lead, the engine, the taps and the mail. -/
structure State.ArbiterKeeps (m a : State) (p : Port) : Prop where
  frame : SameButLead m a
  own : SameMail p a m
  ports : SameButAttn m a

theorem SameMail.postAll_closed {q : Port} {s : State} (h : (s.port q).isOpen = false) (b : NoticeBody) :
    SameMail q (s.postAll b) s :=
  (SameMail.postAll q s b).trans (SameMail.postAt_closed h q b _)

/-- A grant of route CLOSED posts LEAD_GRANTED alone (R61, R75). -/
theorem State.grant_closed (m : State) (b : Bid) :
    m.grant b .closed = (m.granted b).post b.bidder (m.grantNotice b .closed) := by
  rw [State.grant_eq, State.grantLost_of_route (by simp) (by simp)]

theorem State.leads_eq_true {m : State} {p : Port} (h : m.arbiter.leader = .port p) : m.leads p = true :=
  decide_eq_true h

theorem State.leads_eq_false {m : State} {p : Port} (h : m.arbiter.leader ≠ .port p) : ¬ m.leads p = true := by
  simp [State.leads, h]

theorem State.arbiterCloses_of_bid {m : State} {p : Port} {b : Bid} (hl : m.arbiter.leader = .port p)
    (hb : m.arbiter.slot = some b) : m.arbiterCloses p = m.grant b .closed := by
  rw [State.arbiterCloses, if_pos (State.leads_eq_true hl), hb]

theorem State.arbiterCloses_of_lead {m : State} {p : Port} (hl : m.arbiter.leader = .port p)
    (hb : m.arbiter.slot = none) : m.arbiterCloses p = State.postAll { m with
      arbiter := { m.arbiter with leader := .nobody, silenceExpiry := none }
      engine := { m.engine with slip := 0 } } (.freewheel .closed (.port p)) := by
  rw [State.arbiterCloses, if_pos (State.leads_eq_true hl), hb]
  exact State.freewheels_of_port hl .closed

theorem State.arbiterCloses_of_bidder {m : State} {p : Port} {b : Bid} (hl : m.arbiter.leader ≠ .port p)
    (hb : m.arbiter.slot = some b) (hp : b.bidder = p) : m.arbiterCloses p = m.emptySlot := by
  have hbids : m.bids p = true := by rw [State.bids, hb]; exact decide_eq_true hp
  rw [State.arbiterCloses, if_neg (State.leads_eq_false hl), if_pos hbids]

theorem State.arbiterCloses_of_neither {m : State} {p : Port} (hl : m.arbiter.leader ≠ .port p)
    (hb : ∀ b, m.arbiter.slot = some b → b.bidder ≠ p) : m.arbiterCloses p = m := by
  have hbids : m.bids p = false := by
    unfold State.bids
    split
    · next b h => exact decide_eq_false (hb b h)
    · rfl
  rw [State.arbiterCloses, if_neg (State.leads_eq_false hl),
    if_neg (by rw [hbids]; exact Bool.false_ne_true)]

theorem State.arbiterCloses_keeps {m : State} {p : Port} (hclosed : (m.port p).isOpen = false) :
    m.ArbiterKeeps (m.arbiterCloses p) p := by
  have hmail : ∀ {v : State}, SameButLead m v → v.ports = m.ports → v.notices = m.notices →
      v.houseTime = m.houseTime → m.ArbiterKeeps v p := fun {v} hf hp hn ht =>
    ⟨hf, ⟨congrArg (·[p.idx]) hp, congrArg (·[p.idx]) hn, ht⟩, fun q => by
      have e : v.port q = m.port q := congrArg (·[q.idx]) hp
      rw [e]⟩
  by_cases hl : m.arbiter.leader = .port p
  · cases hb : m.arbiter.slot with
    | some b =>
      rw [State.arbiterCloses_of_bid hl hb, State.grant_closed]
      refine ⟨SameButLead.trans_mail (v := m.granted b) rfl (State.postAt_frame _ _ _ _), ?_,
        (State.postAt_sameButAttn (m.granted b) _ _ _ : _)⟩
      have h : SameMail p ((m.granted b).post b.bidder (m.grantNotice b .closed)) (m.granted b) :=
        SameMail.postAt_closed (s := m.granted b) hclosed _ _ _
      exact h.trans ⟨rfl, rfl, rfl⟩
    | none =>
      rw [State.arbiterCloses_of_lead hl hb]
      set v : State := { m with
        arbiter := { m.arbiter with leader := .nobody, silenceExpiry := none }
        engine := { m.engine with slip := 0 } }
      have hv : SameButLead m v := rfl
      exact ⟨hv.trans_mail (v.postAll_frame _), (SameMail.postAll_closed (s := v) hclosed _).trans ⟨rfl, rfl, rfl⟩,
        v.postAll_sameButAttn _⟩
  · by_cases hb : ∃ b, m.arbiter.slot = some b ∧ b.bidder = p
    · obtain ⟨b, hb, hp⟩ := hb
      rw [State.arbiterCloses_of_bidder hl hb hp]
      exact hmail rfl rfl rfl rfl
    · rw [State.arbiterCloses_of_neither hl fun b h e => hb ⟨b, h, e⟩]
      exact hmail rfl rfl rfl rfl

/-! ### The rest of a close -/

/-- From `a` to `r` the claims, the pool, the write settings and the mail alone can have changed. -/
def SameButTorn (a r : State) : Prop :=
  r = { a with
    laneClaims := r.laneClaims, playerClaims := r.playerClaims, cues := r.cues, writeSettings := r.writeSettings
    ports := r.ports, notices := r.notices }

theorem SameButTorn.trans {a r t : State} (h : SameButTorn a r) (h' : SameButTorn r t) : SameButTorn a t :=
  Eq.trans h' (congrArg (fun w : State => { w with
    laneClaims := t.laneClaims, playerClaims := t.playerClaims, cues := t.cues, writeSettings := t.writeSettings
    ports := t.ports, notices := t.notices }) h)

/-- What a close does once the arbiter has acted (R145, R118, R176). -/
structure State.TornDown (a r : State) (p : Port) : Prop where
  port : r.port p = { a.port p with attn := false }
  queue : r.noticeQueue p = { a.noticeQueue p with queue := [], overflowed := false }
  others : ∀ q, q ≠ p → SameMail q r a
  write : r.writeSetting p = WriteSettings.reset
  writes : ∀ q, q ≠ p → r.writeSetting q = a.writeSetting q
  lanes : ∀ l, r.laneHolder l = if a.laneHolder l = some p then none else a.laneHolder l
  players : ∀ i, r.playerHolder i = if a.playerHolder i = some p then none else a.playerHolder i
  cues : r.cues = a.cues.filter fun c => decide (c.owner ≠ p)
  frame : SameButTorn a r

/-- Emptying a port's queue clears its flag and releases its ATTN, and reaches no other port (R176, R180). -/
theorem State.emptyNotices_spec (v : State) (p : Port) :
    (v.emptyNotices p).port p = { v.port p with attn := false }
      ∧ (v.emptyNotices p).noticeQueue p = { v.noticeQueue p with queue := [], overflowed := false }
      ∧ (∀ q, q ≠ p → SameMail q (v.emptyNotices p) v) ∧ SameButMail v (v.emptyNotices p) := by
  refine ⟨?_, ?_, fun q hq => ⟨?_, ?_, rfl⟩, rfl⟩
  · rw [State.emptyNotices, State.refreshAttn_port, if_pos rfl]
    simp [State.attnLevel]
  · simp [State.emptyNotices]
  · rw [State.emptyNotices, State.refreshAttn_port, if_neg (Ne.symm hq), State.setNoticeQueue_port]
  · rw [State.emptyNotices, State.refreshAttn_noticeQueue, State.setNoticeQueue_noticeQueue, if_neg (Ne.symm hq)]

/-- The part of a close between the arbiter and the notice unit: claims, cues and write settings (R170). -/
def State.dispossess (a : State) (p : Port) : State :=
  ((a.releaseClaims p).removeCues p).setWriteSetting p WriteSettings.reset

theorem State.dispossess_eq (a : State) (p : Port) : a.dispossess p = { a with
    laneClaims := (a.releaseClaims p).laneClaims, playerClaims := (a.releaseClaims p).playerClaims
    cues := a.cues.filter fun c => decide (c.owner ≠ p)
    writeSettings := a.writeSettings.set p.idx WriteSettings.reset p.idx.isLt } := by
  unfold State.dispossess State.removeCues State.setWriteSetting State.releaseClaims
  rfl

theorem State.dispossess_writeSetting (a : State) (p q : Port) :
    (a.dispossess p).writeSetting q = if p = q then WriteSettings.reset else a.writeSetting q := by
  have h : ((a.releaseClaims p).removeCues p).writeSettings = a.writeSettings := by
    unfold State.removeCues State.releaseClaims
    rfl
  rw [State.dispossess, State.setWriteSetting_writeSetting]
  unfold State.writeSetting
  rw [h]

theorem State.dispossess_frame (a : State) (p : Port) : SameButTorn a (a.dispossess p) := by
  rw [State.dispossess_eq]
  rfl

theorem State.dispossess_sameMail (a : State) (p q : Port) : SameMail q (a.dispossess p) a := by
  rw [State.dispossess_eq]
  exact ⟨rfl, rfl, rfl⟩

theorem State.dispossess_cues (a : State) (p : Port) :
    (a.dispossess p).cues = a.cues.filter fun c => decide (c.owner ≠ p) := by
  rw [State.dispossess_eq]

theorem State.dispossess_laneHolder (a : State) (p : Port) (l : Fin 16) :
    (a.dispossess p).laneHolder l = if a.laneHolder l = some p then none else a.laneHolder l := by
  rw [State.dispossess_eq, ← State.releaseClaims_laneHolder]
  rfl

theorem State.dispossess_playerHolder (a : State) (p : Port) (i : Fin 4) :
    (a.dispossess p).playerHolder i = if a.playerHolder i = some p then none else a.playerHolder i := by
  rw [State.dispossess_eq, ← State.releaseClaims_playerHolder]
  rfl

theorem SameButTorn.trans_mail {a r t : State} (h : SameButTorn a r) (h' : SameButMail r t) : SameButTorn a t := by
  have hl : t.laneClaims = r.laneClaims := h'.stands State.laneClaims
  have hp : t.playerClaims = r.playerClaims := h'.stands State.playerClaims
  have hc : t.cues = r.cues := h'.stands State.cues
  have hw : t.writeSettings = r.writeSettings := h'.stands State.writeSettings
  unfold SameButTorn
  rw [hl, hp, hc, hw]
  exact Eq.trans h' (congrArg (fun w : State => { w with ports := t.ports, notices := t.notices }) h)

theorem State.tornDown (a : State) (p : Port) : a.TornDown ((a.dispossess p).emptyNotices p) p := by
  obtain ⟨hport, hqueue, hothers, hmail⟩ := (a.dispossess p).emptyNotices_spec p
  obtain ⟨hp, hq, -⟩ := a.dispossess_sameMail p p
  have hwrite : ((a.dispossess p).emptyNotices p).writeSettings = (a.dispossess p).writeSettings :=
    hmail.stands State.writeSettings
  have hlanes : ((a.dispossess p).emptyNotices p).laneClaims = (a.dispossess p).laneClaims := hmail.stands State.laneClaims
  have hplayers : ((a.dispossess p).emptyNotices p).playerClaims = (a.dispossess p).playerClaims :=
    hmail.stands State.playerClaims
  exact
    { port := by rw [hport, hp]
      queue := by rw [hqueue, hq]
      others := fun q h => (hothers q h).trans (a.dispossess_sameMail p q)
      write := by rw [State.writeSetting, hwrite, ← State.writeSetting, State.dispossess_writeSetting, if_pos rfl]
      writes := fun q h => by
        rw [State.writeSetting, hwrite, ← State.writeSetting, State.dispossess_writeSetting, if_neg (Ne.symm h)]
      lanes := fun l => by rw [State.laneHolder, hlanes, ← State.laneHolder, State.dispossess_laneHolder]
      players := fun i => by rw [State.playerHolder, hplayers, ← State.playerHolder, State.dispossess_playerHolder]
      cues := (hmail.stands State.cues).trans (a.dispossess_cues p)
      frame := (a.dispossess_frame p).trans_mail hmail }

/-- What a close changes at most, of the part it found. -/
def SameButClosed (u t : State) : Prop :=
  t = { u with
    arbiter := t.arbiter, engine := t.engine, taps := t.taps, laneClaims := t.laneClaims
    playerClaims := t.playerClaims, cues := t.cues, writeSettings := t.writeSettings
    ports := t.ports, notices := t.notices }

/-- Whatever is neither possession, pool, write setting nor mail stands. -/
theorem SameButTorn.stands {α : Type} {a t : State} (h : SameButTorn a t) (f : State → α)
    (hf : ∀ (u : State) l i c w p n, f { u with
      laneClaims := l, playerClaims := i, cues := c, writeSettings := w, ports := p, notices := n } = f u := by
        intros; rfl) : f t = f a := by
  have e : t = { a with
      laneClaims := t.laneClaims, playerClaims := t.playerClaims, cues := t.cues, writeSettings := t.writeSettings
      ports := t.ports, notices := t.notices } := h
  rw [e, hf]

/-- Whatever is neither lead, engine, tap nor mail stands. -/
theorem SameButLead.stands {α : Type} {u a : State} (h : SameButLead u a) (f : State → α)
    (hf : ∀ (w : State) x e t p n,
      f { w with arbiter := x, engine := e, taps := t, ports := p, notices := n } = f w := by
        intros; rfl) : f a = f u := by
  have e : a = { u with
      arbiter := a.arbiter, engine := a.engine, taps := a.taps, ports := a.ports, notices := a.notices } := h
  rw [e, hf]

theorem SameButLead.torn {u a t : State} (h : SameButLead u a) (h' : SameButTorn a t) : SameButClosed u t := by
  have ha := h'.stands State.arbiter
  have he := h'.stands State.engine
  have ht := h'.stands State.taps
  unfold SameButClosed
  rw [ha, he, ht]
  exact Eq.trans h' (congrArg (fun w : State => { w with
    laneClaims := t.laneClaims, playerClaims := t.playerClaims, cues := t.cues, writeSettings := t.writeSettings
    ports := t.ports, notices := t.notices }) h)

theorem SameButClosed.of_markClosed {u t : State} {p : Port} (h : SameButClosed (u.markClosed p) t) :
    SameButClosed u t := h

theorem SameButClosed.stands {α : Type} {u t : State} (h : SameButClosed u t) (f : State → α)
    (hf : ∀ (w : State) x e y l i c z p n, f { w with
      arbiter := x, engine := e, taps := y, laneClaims := l, playerClaims := i, cues := c, writeSettings := z
      ports := p, notices := n } = f w := by intros; rfl) : f t = f u := by
  have e : t = { u with
      arbiter := t.arbiter, engine := t.engine, taps := t.taps, laneClaims := t.laneClaims
      playerClaims := t.playerClaims, cues := t.cues, writeSettings := t.writeSettings
      ports := t.ports, notices := t.notices } := h
  rw [e, hf]

/-! ### OPEN and CLOSE -/

/-- Port `q`'s mail is the one the frame of another port found. -/
theorem State.heard_sameMail {s : State} {p q : Port} (h : q ≠ p) (i : Instr) : SameMail q (s.heard p i) s := by
  refine ⟨?_, State.heard_noticeQueue s p i q, State.heard_houseTime s p i⟩
  unfold State.heard
  split
  · rw [State.frameEnds_port, if_neg (Ne.symm h)]
  · rfl

/-- The arbiter is the one the frame of a port that does not lead found (R69). -/
theorem State.heard_arbiter_of_not {s : State} {p : Port} (h : s.arbiter.leader ≠ .port p) (i : Instr) :
    (s.heard p i).arbiter = s.arbiter := by
  unfold State.heard
  split
  · rw [State.frameEnds_eq]
    dsimp only
    rw [if_neg h]
  · rfl

theorem State.markClosed_sameMail {s : State} {p q : Port} (h : q ≠ p) : SameMail q (s.markClosed p) s :=
  ⟨State.setPort_port_other s p _ q h, rfl, rfl⟩

theorem State.emptySlot_sameMail (s : State) (q : Port) : SameMail q s.emptySlot s := ⟨rfl, rfl, rfl⟩

theorem State.granted_sameMail (s : State) (b : Bid) (q : Port) : SameMail q (s.granted b) s := ⟨rfl, rfl, rfl⟩

section Closing

variable {s : State} {p : Port}

/-- The part as the arbiter meets it at a close: the frame has ended and the port is CLOSED (R170). -/
def State.closing (s : State) (p : Port) : State := (s.heard p (.closePort p)).markClosed p

theorem State.closing_sameMail {q : Port} (h : q ≠ p) : SameMail q (s.closing p) s :=
  (State.markClosed_sameMail h).trans (State.heard_sameMail h _)

theorem State.closing_leader : (s.closing p).arbiter.leader = s.arbiter.leader := State.heard_leader s p _

theorem State.closing_slot : (s.closing p).arbiter.slot = s.arbiter.slot := State.heard_slot s p _

theorem State.closing_isOpen : ((s.closing p).port p).isOpen = false :=
  congrArg DeskPort.isOpen (State.setPort_port_self (s.heard p (.closePort p)) p _)

/-- A port that does not lead closes: of the arbiter, its own bid alone goes (R170). -/
theorem State.closes_of_not_leads (hl : s.arbiter.leader ≠ .port p) :
    ((s.closing p).arbiterCloses p).engine = s.engine ∧ ((s.closing p).arbiterCloses p).taps = s.taps
      ∧ ((∀ b, s.arbiter.slot = some b → b.bidder ≠ p) → ((s.closing p).arbiterCloses p).arbiter = s.arbiter)
      ∧ (∀ b, s.arbiter.slot = some b → b.bidder = p →
        ((s.closing p).arbiterCloses p).arbiter = { s.arbiter with slot := none, waitExpiry := none })
      ∧ ∀ q, q ≠ p → SameMail q ((s.closing p).arbiterCloses p) s := by
  have hl' : (s.closing p).arbiter.leader ≠ .port p := by rw [State.closing_leader]; exact hl
  have harb : (s.closing p).arbiter = s.arbiter := State.heard_arbiter_of_not hl _
  have hengine : (s.closing p).engine = s.engine := State.heard_engine s p _
  have htaps : (s.closing p).taps = s.taps := State.heard_taps s p _
  by_cases hb : ∃ b, s.arbiter.slot = some b ∧ b.bidder = p
  · obtain ⟨b, hb, hp⟩ := hb
    rw [State.arbiterCloses_of_bidder hl' (State.closing_slot.trans hb) hp]
    refine ⟨hengine, htaps, fun h => absurd hp (h b hb), fun _ _ _ => ?_, fun q hq => ?_⟩
    · rw [← harb]
      rfl
    · exact (State.emptySlot_sameMail _ q).trans (State.closing_sameMail hq)
  · have hnone : ∀ b, s.arbiter.slot = some b → b.bidder ≠ p := fun b h e => hb ⟨b, h, e⟩
    rw [State.arbiterCloses_of_neither hl' fun b h => hnone b (State.closing_slot.symm.trans h)]
    exact ⟨hengine, htaps, fun _ => harb, fun b h e => absurd e (hnone b h), fun q hq => State.closing_sameMail hq⟩

/-- The leader closes while a bid waits: the bidder is granted, as if the port had not closed (R73). -/
theorem State.closes_granting {b : Bid} (hl : s.arbiter.leader = .port p) (hb : s.arbiter.slot = some b)
    (hp : b.bidder ≠ p) :
    ((s.closing p).arbiterCloses p).arbiter = ((s.heard p (.closePort p)).grant b .closed).arbiter
      ∧ ((s.closing p).arbiterCloses p).engine = ((s.heard p (.closePort p)).grant b .closed).engine
      ∧ ((s.closing p).arbiterCloses p).taps = ((s.heard p (.closePort p)).grant b .closed).taps
      ∧ ((s.closing p).arbiterCloses p).arbiter.leader = .port b.bidder
      ∧ ((s.closing p).arbiterCloses p).arbiter.slot = none
      ∧ ∀ q, q ≠ p → SameMail q ((s.closing p).arbiterCloses p) ((s.heard p (.closePort p)).grant b .closed) := by
  rw [State.arbiterCloses_of_bid (State.closing_leader.trans hl) (State.closing_slot.trans hb)]
  obtain ⟨harb, htaps, hengine, -⟩ := (s.closing p).grant_changes b .closed
  obtain ⟨harb', htaps', hengine', -⟩ := (s.heard p (.closePort p)).grant_changes b .closed
  have hport : (s.closing p).port b.bidder = (s.heard p (.closePort p)).port b.bidder :=
    (State.markClosed_sameMail hp).port
  have hsilence : (s.closing p).silenceFor b.bidder = (s.heard p (.closePort p)).silenceFor b.bidder := by
    unfold State.silenceFor
    rw [hport]
    rfl
  refine ⟨?_, ?_, ?_, ?_, ?_, fun q hq => ?_⟩
  · rw [harb, harb', hsilence]
  · rw [hengine, hengine']
    rfl
  · rw [htaps, htaps']
    rfl
  · rw [harb]
  · rw [harb]
  · have hq' : SameMail q ((s.closing p).granted b) ((s.heard p (.closePort p)).granted b) :=
      (State.granted_sameMail _ b q).trans
        ((State.markClosed_sameMail hq).trans (State.granted_sameMail _ b q).symm)
    rw [State.grant_closed, State.grant_closed]
    exact hq'.postAt b.bidder _ _

/-- The leader closes with no bid waiting: nobody leads, and the others are told (R74). -/
theorem State.closes_freeing (hl : s.arbiter.leader = .port p) (hb : s.arbiter.slot = none) :
    ((s.closing p).arbiterCloses p).arbiter = ⟨.nobody, none, s.arbiter.waitExpiry, none⟩
      ∧ ((s.closing p).arbiterCloses p).engine = { s.engine with slip := 0 }
      ∧ ∀ q, q ≠ p → SameMail q ((s.closing p).arbiterCloses p) (s.post q (.freewheel .closed (.port p))) := by
  rw [State.arbiterCloses_of_lead (State.closing_leader.trans hl) (State.closing_slot.trans hb)]
  set v : State := { s.closing p with
    arbiter := { (s.closing p).arbiter with leader := .nobody, silenceExpiry := none }
    engine := { (s.closing p).engine with slip := 0 } } with hv
  have hframe := v.postAll_frame (.freewheel .closed (.port p))
  have harb : v.arbiter = ⟨.nobody, none, s.arbiter.waitExpiry, none⟩ := by
    have hslot : (s.closing p).arbiter.slot = none := State.closing_slot.trans hb
    have hwait : (s.closing p).arbiter.waitExpiry = s.arbiter.waitExpiry := State.heard_waitExpiry s p _
    rw [hv]
    dsimp only
    rw [hslot, hwait]
  have hengine : v.engine = { s.engine with slip := 0 } := by
    have he : (s.closing p).engine = s.engine := State.heard_engine s p _
    rw [hv]
    dsimp only
    rw [he]
  have hgen : v.gen = s.gen := State.heard_gen s p _
  refine ⟨(hframe.stands State.arbiter).trans harb, (hframe.stands State.engine).trans hengine, fun q hq => ?_⟩
  have hlead : SameMail q v (s.closing p) := ⟨rfl, rfl, rfl⟩
  have hmail := hlead.trans (State.closing_sameMail hq)
  have hpost := hmail.postAt q (.freewheel .closed (.port p)) (some v.gen.position)
  rw [hgen] at hpost
  refine (SameMail.postAll q v _).trans ?_
  rw [State.post, hgen]
  exact hpost

end Closing

/-- Settles O9: OPEN by its body, CLOSE by the arbiter's part in its four cases and the rest. -/
theorem openAndCloseAPort : Obligations.OpenAndCloseAPort := by
  refine ⟨fun p s hcan => ?_, fun p s hcan hslotLegal => ?_⟩
  · intro d u report
    have hreport : u.openBytes p = report := by
      simp [State.openBytes, DeskPort.profileBytes, NoticeQueue.settingBytes, flagByte, byte, u, report, d]
    rw [exec_taken_exempt rfl hcan rfl, openBody, State.heard_port_isOpen]
    by_cases ho : (s.port p).isOpen = true
    · rw [if_pos ho, if_pos ho, ← hreport]
    · rw [if_neg ho, if_neg ho, ← hreport]
  · have hexec : exec (.closePort p) s =
        answers p 0x02 .ok [] (((s.closing p).arbiterCloses p).dispossess p |>.emptyNotices p) := exec_taken rfl hcan
    have hbidder : ∀ b, s.arbiter.leader = .port p → s.arbiter.slot = some b → b.bidder ≠ p := fun b hl hb e => by
      obtain ⟨⟨y, hy, hne⟩, -⟩ := hslotLegal b hb
      rw [hl] at hy
      exact hne (by rw [e]; exact (Leader.port.inj hy).symm)
    have hself : (s.closing p).port p = { (s.heard p (.closePort p)).port p with
        isOpen := false, session := (s.port p).session + 1 } := by
      rw [← State.heard_port_session s p p (i := .closePort p)]
      exact State.setPort_port_self (s.heard p (.closePort p)) p _
    have hnotices : (s.closing p).noticeQueue p = s.noticeQueue p := State.heard_noticeQueue s p _ p
    have hcues' : (s.closing p).cues = s.cues := State.heard_cues s p _
    have hwrite' : ∀ q, (s.closing p).writeSetting q = s.writeSetting q := State.heard_writeSetting s p _
    have hlanes' : ∀ l, (s.closing p).laneHolder l = s.laneHolder l := State.heard_laneHolder s p _
    have hplayers' : ∀ i, (s.closing p).playerHolder i = s.playerHolder i := State.heard_playerHolder s p _
    have hothers' : ∀ q, q ≠ p → SameMail q (s.closing p) s := fun q hq => State.closing_sameMail hq
    obtain ⟨hframe, hown, hattn⟩ := State.arbiterCloses_keeps (State.closing_isOpen (s := s) (p := p))
    have hnot := State.closes_of_not_leads (s := s) (p := p)
    have hgrant := fun b hl hb => State.closes_granting (s := s) (p := p) (b := b) hl hb (hbidder b hl hb)
    have hfree := State.closes_freeing (s := s) (p := p)
    generalize (s.closing p).arbiterCloses p = a at *
    obtain ⟨hport, hqueue, hothers, hwrite, hwrites, hlanes, hplayers, hcues, htorn⟩ := a.tornDown p
    generalize (a.dispossess p).emptyNotices p = t at *
    have hclosed : SameButClosed (s.heard p (.closePort p)) t := (hframe.torn htorn).of_markClosed
    have harb := htorn.stands State.arbiter
    have hlead : s.arbiter.leader ≠ .port p → a.arbiter.leader = s.arbiter.leader := fun hl => by
      obtain ⟨-, -, hnone, hown, -⟩ := hnot hl
      by_cases hb : ∃ b, s.arbiter.slot = some b ∧ b.bidder = p
      · obtain ⟨b, hb, hp⟩ := hb
        rw [hown b hb hp]
      · rw [hnone fun b h e => hb ⟨b, h, e⟩]
    refine ⟨t, hexec, ?_, ?_, ?_, hwrite, ?_, ?_, ?_, ?_,
      (hclosed.stands State.allocations).trans (State.heard_allocations s p _), ?_, ?_, ?_, ?_, ?_,
      ⟨?_, ?_, ?_, hclosed⟩,
      (hclosed.stands State.transport).trans (State.heard_transport s p _),
      (hclosed.stands State.gen).trans (State.heard_gen s p _),
      (hclosed.stands State.queue).trans (State.heard_queue s p _),
      (hclosed.stands State.lanes).trans (State.heard_lanes s p _),
      (hclosed.stands State.players).trans (State.heard_players s p _),
      (hclosed.stands State.patternMem).trans (State.heard_patternMem s p _)⟩
    · rw [hport, hown.port, hself]
    · intro q hq
      have hs := hattn q
      rw [(hothers' q hq).port] at hs
      rw [(hothers q hq).port]
      exact hs
    · rw [hqueue, hown.queue, hnotices]
    · intro q hq
      rw [hwrites q hq, hframe.stands fun w => w.writeSetting q, hwrite']
    · intro l
      rw [hlanes, hframe.stands fun w => w.laneHolder l, hlanes']
    · intro i
      rw [hplayers, hframe.stands fun w => w.playerHolder i, hplayers']
    · rw [hcues, hframe.stands State.cues, hcues']
    · rw [harb]
      by_cases hl : s.arbiter.leader = .port p
      · cases hb : s.arbiter.slot with
        | some b =>
          obtain ⟨-, -, -, hlead, -⟩ := hgrant b hl hb
          rw [hlead]
          exact fun e => hbidder b hl hb (Leader.port.inj e)
        | none =>
          obtain ⟨hlead, -, -⟩ := hfree hl hb
          rw [hlead]
          exact Leader.noConfusion
      · rw [hlead hl]
        exact hl
    · intro hl
      rw [harb, hlead hl]
    · intro b hb hp
      obtain ⟨-, -, -, hown, -⟩ := hnot fun hl => hbidder b hl hb hp
      rw [harb, hown b hb hp]
    · intro b hl hb
      obtain ⟨-, -, -, hlead, hslot, -⟩ := hgrant b hl hb
      exact ⟨by rw [harb, hlead], by rw [harb, hslot]⟩
    · intro hl hb
      obtain ⟨ha, he, -⟩ := hfree hl hb
      exact ⟨by rw [harb, ha], by rw [htorn.stands State.engine, he]⟩
    · intro hl
      obtain ⟨he, ht, hnone, hown, hmail⟩ := hnot hl
      refine ⟨(htorn.stands State.engine).trans he, (htorn.stands State.taps).trans ht, fun h => (htorn.stands State.arbiter).trans (hnone h),
        fun b hb h => (htorn.stands State.arbiter).trans (hown b hb h), fun q hq => ?_⟩
      have h := (hothers q hq).trans (hmail q hq)
      exact ⟨h.queue, h.port⟩
    · intro b hl hb
      obtain ⟨ha, he, ht, -, -, hmail⟩ := hgrant b hl hb
      refine ⟨(htorn.stands State.arbiter).trans ha, (htorn.stands State.engine).trans he, (htorn.stands State.taps).trans ht, fun q hq => ?_⟩
      have h := (hothers q hq).trans (hmail q hq)
      exact ⟨h.queue, h.port⟩
    · intro hl hb
      obtain ⟨-, he, hmail⟩ := hfree hl hb
      refine ⟨(htorn.stands State.engine).trans he, fun q hq => ?_⟩
      have h := (hothers q hq).trans (hmail q hq)
      exact ⟨h.queue, h.port⟩

end Sys2Proof.Machine

/-! PROOF. The step that makes a record, launch and generator step alike (sections 2.2, 2.3, 3.1): what it takes from
the firing of the due cues, the record it makes and the part after it. -/

namespace Sys2Proof.Machine

/-! ### What a making leaves alone -/

/-- From `s` to `t` the pool, the players and the engine alone can have changed. -/
def SameButFired (s t : State) : Prop :=
  t = { s with cues := t.cues, players := t.players, engine := t.engine }

theorem SameButFired.trans {s t u : State} (h : SameButFired s t) (h' : SameButFired t u) : SameButFired s u :=
  Eq.trans h' (congrArg (fun w : State => { w with cues := u.cues, players := u.players, engine := u.engine }) h)

theorem Firing.act_remove_frame (f : Firing) (c : Cue) : SameButFired f.state ((f.remove c).act c).state := by
  have hact := Firing.act_frame (f.remove c) c
  exact SameButFired.trans (t := (f.remove c).state) rfl (by unfold SameButFired; rw [hact])

/-- The firing of the due cues leaves all but the pool, the players and the engine (R108). -/
theorem State.fireCues_frame (s : State) : s.fireCues.state = { s with
    cues := s.fireCues.state.cues, players := s.fireCues.state.players, engine := s.fireCues.state.engine } :=
  State.fireCues_keeps (P := SameButFired s) (s := s) rfl fun f c _ hf => hf.trans (f.act_remove_frame c)

/-- From `s` to `t` only what a making can change has changed. -/
def SameButMade (s t : State) : Prop :=
  t = { s with
    queue := t.queue, engine := t.engine, gen := t.gen, transport := t.transport, lastBeat := t.lastBeat
    cues := t.cues, players := t.players, lanes := t.lanes, ports := t.ports, notices := t.notices }

namespace SameButMade

variable {s t u : State}

theorem refl (s : State) : SameButMade s s := rfl

theorem trans (h : SameButMade s t) (h' : SameButMade t u) : SameButMade s u :=
  Eq.trans h' (congrArg (fun w : State => { w with
    queue := u.queue, engine := u.engine, gen := u.gen, transport := u.transport, lastBeat := u.lastBeat
    cues := u.cues, players := u.players, lanes := u.lanes, ports := u.ports, notices := u.notices }) h)

theorem of_mail (h : SameButMail s t) : SameButMade s t := by
  have hq : t.queue = s.queue := h.stands State.queue
  have he : t.engine = s.engine := h.stands State.engine
  have hg : t.gen = s.gen := h.stands State.gen
  have ht : t.transport = s.transport := h.stands State.transport
  have hb : t.lastBeat = s.lastBeat := h.stands State.lastBeat
  have hc : t.cues = s.cues := h.stands State.cues
  have hp : t.players = s.players := h.stands State.players
  have hl : t.lanes = s.lanes := h.stands State.lanes
  unfold SameButMade
  rw [hq, he, hg, ht, hb, hc, hp, hl]
  exact h

theorem fireCues (s : State) : SameButMade s s.fireCues.state := by
  unfold SameButMade
  rw [s.fireCues_frame]

theorem setLaunchN (s : State) : SameButMade s s.setLaunchN := by
  unfold State.setLaunchN
  split <;> rfl

theorem applyMeter (s : State) : SameButMade s s.applyMeter := by
  rw [State.applyMeter_eq]
  rfl

theorem wrapDrop (s : State) (x : Position) (m : Nat) : SameButMade s (s.wrapDrop x m) := by
  unfold State.wrapDrop
  split
  · unfold SameButMade
    rw [State.dropAllCues_frame]
  · rfl

/-- The record is made after the given notices are posted: players, queue, generator and pool follow (R29). -/
theorem append (s : State) (y : Vector Player 4) (r : PulseRecord) :
    SameButMade s (({ s with players := y } : State).append r).stepOn := rfl

theorem makeRecord (launch : Bool) (f : Firing) : SameButMade f.state (makeRecord launch f) :=
  ((applyMeter f.state).trans (of_mail (State.postGiven_frame _ _ _ _))).trans ((append _ _ _).trans (wrapDrop _ _ _))

theorem enter (s : State) (st : TransportState) : SameButMade s (s.enter st) :=
  SameButMade.trans (t := { s with transport := { s.transport with state := st } }) rfl
    (of_mail (State.postAll_frame _ _))

/-- Whatever a making does not change stands. -/
theorem stands {α : Type} (h : SameButMade s t) (f : State → α)
    (hf : ∀ (w : State) q e g x b c y l p n, f { w with
      queue := q, engine := e, gen := g, transport := x, lastBeat := b, cues := c, players := y, lanes := l
      ports := p, notices := n } = f w := by intros; rfl) : f t = f s := by
  have e : t = { s with
      queue := t.queue, engine := t.engine, gen := t.gen, transport := t.transport, lastBeat := t.lastBeat
      cues := t.cues, players := t.players, lanes := t.lanes, ports := t.ports, notices := t.notices } := h
  rw [e, hf]

end SameButMade

/-! ### The step that makes a record -/

/-- What the due cues hand the making: their firing, with N set to the launch time at a launch (R28). -/
def State.firingAt (s : State) (launch : Bool) : Firing :=
  { s.fireCues with state := if launch then s.fireCues.state.setLaunchN else s.fireCues.state }

/-- The part after a step that makes a record (R28, R29). -/
def State.made (s : State) (launch : Bool) : State :=
  if launch then (makeRecord true (s.firingAt true)).enter .running else makeRecord false (s.firingAt false)

theorem exec_stepRow_made {s : State} {launch : Bool} (h : s.makesRecord launch) :
    exec (stepRow launch) s = .next (s.made launch) := by
  rw [exec_stepRow h]
  rfl

theorem State.setLaunchN_sameMail (s : State) (q : Port) : SameMail q s.setLaunchN s := by
  unfold State.setLaunchN
  cases s.transport.launchTime with
  | none => exact SameMail.refl q s
  | some t => exact ⟨rfl, rfl, rfl⟩

section Made

variable (s : State) (launch : Bool)

theorem State.firingAt_touches : Touches [.gen] s.fireCues.state (s.firingAt launch).state := by
  cases launch with
  | false => exact Touches.refl _ _
  | true => exact setLaunchN_touches _

theorem State.firingAt_engine : (s.firingAt launch).state.engine = s.fireCues.state.engine :=
  s.firingAt_touches launch .engine (by simp)

theorem State.firingAt_cues : (s.firingAt launch).state.cues = s.fireCues.state.cues :=
  s.firingAt_touches launch .cues (by simp)

theorem State.firingAt_player (j : Fin 4) : (s.firingAt launch).state.player j = s.fireCues.state.player j :=
  congrArg (fun v : Vector Player 4 => v[j]) (s.firingAt_touches launch .players (by simp))

theorem State.firingAt_position : (s.firingAt launch).state.gen.position = s.gen.position := by
  rw [← s.fireCues_gen]
  cases launch with
  | false => rfl
  | true => exact (setLaunchN_spec s.fireCues.state).1

theorem State.firingAt_pulse : (s.firingAt launch).state.gen.pulse = s.gen.pulse := by
  rw [← s.fireCues_gen]
  cases launch with
  | false => rfl
  | true => exact (setLaunchN_spec s.fireCues.state).2.1

theorem State.firingAt_mail (q : Port) : SameMail q (s.firingAt launch).state s := by
  have hfire : SameMail q s.fireCues.state s := by
    rw [s.fireCues_frame]
    exact ⟨rfl, rfl, rfl⟩
  cases launch with
  | false => exact hfire
  | true => exact (State.setLaunchN_sameMail s.fireCues.state q).trans hfire

/-- The engine of the making is the one the cues leave, with a pending meter applied at a bar start (R19). -/
theorem State.firingAt_makingEngine : (s.firingAt launch).state.makingEngine = s.recordEngine := by
  rw [State.makingEngine, State.firingAt_position, State.firingAt_engine]
  rfl

/-- The part as its record is made: the cues have fired and a pending meter is in effect (R29). -/
def State.atMaking (s : State) (launch : Bool) : State := (s.firingAt launch).state.applyMeter

/-- The record made (R41). -/
def State.recordMade (s : State) (launch : Bool) : PulseRecord :=
  (s.atMaking launch).newRecord launch s.fireCues.changes s.fireCues.given

theorem State.atMaking_eq : s.atMaking launch = { (s.firingAt launch).state with engine := s.recordEngine } := by
  rw [State.atMaking, State.applyMeter_eq, State.firingAt_makingEngine]

/-- The record made at the generator position (R7, R16, R41, R42). -/
theorem State.recordMade_eq : s.recordMade launch =
    { pulse := s.gen.pulse, refTime := grainsToTime (s.firingAt launch).state.gen.n, position := s.gen.position
      interval := s.recordEngine.interval, markers := markersAt launch s.gen.position
      steps := (s.recordMade launch).steps, laneChanges := laneChangeEntries s.fireCues.changes
      sounds := (s.recordMade launch).sounds, sounded := false } := by
  have hpos := s.firingAt_position launch
  have hpulse := s.firingAt_pulse launch
  rw [State.recordMade, State.atMaking_eq]
  unfold State.newRecord
  dsimp only
  rw [hpos, hpulse]

theorem State.recordMade_position : (s.recordMade launch).position = s.gen.position := by
  rw [s.recordMade_eq]

theorem State.made_touches :
    Touches [.run, .notices] (makeRecord launch (s.firingAt launch)) (s.made launch) := by
  cases launch with
  | false => exact Touches.refl _ _
  | true => exact enter_touches _ _

theorem State.made_queue : (s.made launch).queue = s.queue ++ [s.recordMade launch] := by
  have hmade : (s.made launch).queue = _ := s.made_touches launch .queue (by simp)
  obtain ⟨hqueue, -⟩ := makeRecord_spec launch (s.firingAt launch)
  have hfire : (s.firingAt launch).state.queue = s.fireCues.state.queue := s.firingAt_touches launch .queue (by simp)
  have hstand : (s.atMaking launch).queue = s.queue := by
    rw [State.atMaking_eq]
    exact hfire.trans s.fireCues_queue
  rw [hmade, hqueue]
  exact congrArg (· ++ [s.recordMade launch]) hstand

theorem State.made_player (j : Fin 4) : (s.made launch).player j = (s.recordPlayer launch j).1 := by
  have hmade : (s.made launch).player j = _ :=
    congrArg (fun v : Vector Player 4 => v[j]) (s.made_touches launch .players (by simp))
  exact hmade.trans (by
    rw [← State.player, makeRecord_player, State.firingAt_player, State.firingAt_position]
    rfl)

theorem State.made_engine : (s.made launch).engine = s.recordEngine.afterRecord := by
  have hmade : (s.made launch).engine = _ := s.made_touches launch .engine (by simp)
  rw [hmade, makeRecord_engine, State.firingAt_makingEngine]

theorem State.made_gen : (s.made launch).gen = ⟨s.gen.position.advance s.recordEngine.meter, s.gen.pulse + 1,
    (s.firingAt launch).state.gen.n
      + BitVec.ofInt 80 ((s.recordEngine.interval : Int) + s.recordEngine.slipPortion)⟩ := by
  have hmade : (s.made launch).gen = _ := s.made_touches launch .gen (by simp)
  rw [hmade, makeRecord_gen, State.firingAt_makingEngine, State.firingAt_position, State.firingAt_pulse]

theorem State.made_cues : (s.made launch).cues =
    if s.gen.position.lastOfBar s.recordEngine.meter ∧ Config.lastBar ≤ s.gen.position.bar then []
    else if s.gen.position.lastOfBar s.recordEngine.meter then
      carryCues s.gen.position.bar s.recordEngine.meter s.fireCues.state.cues
    else s.fireCues.state.cues := by
  have hmade : (s.made launch).cues = _ := s.made_touches launch .cues (by simp)
  rw [hmade, makeRecord_cues, State.firingAt_makingEngine, State.firingAt_position, State.firingAt_cues]

theorem State.made_lastBeat : (s.made launch).lastBeat =
    if s.gen.position.pulse = 0 then
      some ⟨(s.recordMade launch).pulse, s.gen.position, (s.recordMade launch).refTime⟩
    else s.lastBeat := by
  have hmade : (s.made launch).lastBeat = _ := s.made_touches launch .lastBeat (by simp)
  obtain ⟨-, -, hbeat, -⟩ := makeRecord_spec launch (s.firingAt launch)
  have hfire : (s.firingAt launch).state.lastBeat = s.fireCues.state.lastBeat :=
    s.firingAt_touches launch .lastBeat (by simp)
  have hstand : s.fireCues.state.lastBeat = s.lastBeat := fireCues_touches s .lastBeat (by simp)
  have hstart : (s.recordMade launch).markers.beatStart = decide (s.gen.position.pulse = 0) := by
    rw [← s.recordMade_position launch]
    rfl
  rw [hmade, hbeat, ← hstand, ← hfire]
  change (if (s.recordMade launch).markers.beatStart then
    some ⟨(s.recordMade launch).pulse, (s.recordMade launch).position, (s.recordMade launch).refTime⟩
    else (s.firingAt launch).state.applyMeter.lastBeat) = _
  rw [hstart, s.recordMade_position, State.applyMeter_eq]
  simp

theorem State.made_lane (l : Fin 16) : (s.made launch).lane l = (s.lane l).onAppend launch s.gen.pulse := by
  have hlanes : (s.firingAt launch).state.lane l = s.lane l :=
    ((s.firingAt_touches launch).lane l).trans ((fireCues_touches s).lane l)
  rw [(s.made_touches launch).lane l, makeRecord_lane, hlanes, State.firingAt_pulse]

theorem State.made_transport : (s.made launch).transport =
    if launch then { s.transport with state := .running } else s.transport := by
  have hfire : (s.firingAt launch).state.transport = s.transport :=
    ((s.firingAt_touches launch).transport).trans s.fireCues_transport
  cases launch with
  | false => exact (makeRecord_transport false _).trans hfire
  | true =>
    rw [State.made, if_pos rfl, State.enter_transport, makeRecord_transport, hfire]
    rfl

theorem State.made_frame : SameButMade s (s.made launch) := by
  have hfire : SameButMade s (s.firingAt launch).state := by
    cases launch with
    | false => exact SameButMade.fireCues s
    | true => exact (SameButMade.fireCues s).trans (SameButMade.setLaunchN _)
  refine (hfire.trans (SameButMade.makeRecord launch _)).trans ?_
  cases launch with
  | false => exact SameButMade.refl _
  | true => exact SameButMade.enter _ _

end Made

end Sys2Proof.Machine

/-! PROOF. The launch step and the generator step (sections 2.2, 2.3, 3.1), and what their record carries. -/

namespace Sys2Proof.Machine

/-! ### Dueness -/

theorem State.launchDue_of {s : State} {t : Time} (h : s.transport.state = .armed)
    (ht : s.transport.launchTime = some t)
    (hd : (t - BitVec.ofNat 64 (s.transport.horizonMs * 1000)).toNat ≤ s.houseTime.toNat) : s.launchDue = true := by
  rw [State.launchDue, h, State.due_eq_true (t := earlier t s.horizonUs) (by rw [ht]; rfl) hd]
  rfl

theorem State.generatorDue_of {s : State} (h : s.transport.state = .running ∨ s.transport.state = .stopPending)
    (hd : (BitVec.ofNat 64 (s.gen.n.toNat / 65536) - BitVec.ofNat 64 (s.transport.horizonMs * 1000)).toNat
      ≤ s.houseTime.toNat) : s.generatorDue = true := by
  rw [State.generatorDue, s.making_iff.2 h, Bool.true_and]
  exact decide_eq_true hd

/-- A launch time is a whole number of µs: it comes back from the grains N is set to (R2). -/
theorem grainsToTime_timeToGrains (t : Time) : grainsToTime (timeToGrains t) = t := by
  apply BitVec.eq_of_toNat_eq
  have h := t.isLt
  simp only [grainsToTime, timeToGrains, BitVec.toNat_ofNat]
  omega

/-- A launch seats every lane that is not OFF on its record and gives it its pulse number (R28, R146). -/
theorem Lane.onAppend_launch (n : PulseNumber) (l : Lane) : l.onAppend true n = { l with
    launchRef := n
    cursor := if l.settings.mode ≠ .off ∨ l.cursor = some .next then some (.at n) else l.cursor } := by
  unfold Lane.onAppend
  by_cases hm : l.settings.mode = .off <;> by_cases hc : l.cursor = some .next <;> simp [hm, hc]

/-- Away from a launch a cursor that names the next record comes to name this one, and nothing else changes (R52). -/
theorem Lane.onAppend_step (n : PulseNumber) (l : Lane) : l.onAppend false n = { l with
    cursor := if l.cursor = some .next then some (.at n) else l.cursor } := by
  unfold Lane.onAppend
  by_cases hc : l.cursor = some .next <;> simp [hc]

/-! ### The steps -/

/-- Settles O22: the launch step is a making at the launch time. -/
theorem launchStepMakesTheLaunchRecord : Obligations.LaunchStepMakesTheLaunchRecord := by
  refine ⟨fun s h => ?_, fun t0 s harmed ht hdue hstop hcues => ?_⟩
  · rw [exec, execLaunchStep, h]
    rfl
  · intro x e
    have hmakes : s.makesRecord true := ⟨State.launchDue_of harmed ht hdue, hstop, hcues⟩
    have hn : (s.firingAt true).state.gen.n = timeToGrains t0 :=
      (setLaunchN_spec s.fireCues.state).2.2 t0 (by rw [State.fireCues_transport]; exact ht)
    have hgen := s.made_gen true
    rw [hn] at hgen
    have hrec := s.recordMade_eq true
    rw [hn, grainsToTime_timeToGrains] at hrec
    have hframe := s.made_frame true
    exact ⟨s.made true, s.recordMade true, exec_stepRow_made hmakes, s.made_queue true,
      congrArg PulseRecord.pulse hrec, congrArg PulseRecord.refTime hrec, congrArg PulseRecord.position hrec,
      congrArg PulseRecord.interval hrec, congrArg PulseRecord.markers hrec, s.made_transport true, s.made_engine true,
      congrArg Generator.n hgen, congrArg Generator.position hgen, congrArg Generator.pulse hgen,
      fun l => (s.made_lane true l).trans (Lane.onAppend_launch _ _), hframe, hframe.stands State.arbiter,
      hframe.stands State.taps, hframe.stands State.patternMem, hframe.stands State.laneClaims,
      hframe.stands State.playerClaims, hframe.stands State.allocations, hframe.stands State.houseTime⟩

/-- A making that is no launch leaves the transport too. -/
theorem SameButMade.of_transport {s t : State} (h : SameButMade s t) (ht : t.transport = s.transport) : t = { s with
    queue := t.queue, engine := t.engine, gen := t.gen, lastBeat := t.lastBeat, cues := t.cues
    players := t.players, lanes := t.lanes, ports := t.ports, notices := t.notices } := by
  unfold SameButMade at h
  rw [ht] at h
  exact h

/-- Settles O23: the generator step is a making at N. -/
theorem generatorStepMakesTheNextRecord : Obligations.GeneratorStepMakesTheNextRecord := by
  refine ⟨fun s h => ?_, fun s hstate hdue hstop hcues => ?_⟩
  · rw [exec, execGeneratorStep, h]
    rfl
  · intro x e
    have hmakes : s.makesRecord false := ⟨State.generatorDue_of hstate hdue, hstop, hcues⟩
    have hn : (s.firingAt false).state.gen.n = s.gen.n := congrArg Generator.n s.fireCues_gen
    have hgen := s.made_gen false
    rw [hn] at hgen
    have hrec := s.recordMade_eq false
    rw [hn] at hrec
    have hframe := s.made_frame false
    have htransport := s.made_transport false
    exact ⟨s.made false, s.recordMade false, exec_stepRow_made hmakes, s.made_queue false,
      congrArg PulseRecord.pulse hrec, congrArg PulseRecord.refTime hrec, congrArg PulseRecord.position hrec,
      congrArg PulseRecord.interval hrec, congrArg PulseRecord.markers hrec, htransport, s.made_engine false,
      congrArg Generator.n hgen, congrArg Generator.position hgen, congrArg Generator.pulse hgen, s.made_lastBeat false,
      fun l => (s.made_lane false l).trans (Lane.onAppend_step _ _), hframe.of_transport htransport,
      hframe.stands State.arbiter, hframe.stands State.taps, hframe.stands State.patternMem,
      hframe.stands State.laneClaims, hframe.stands State.playerClaims, hframe.stands State.allocations,
      hframe.stands State.houseTime⟩

/-! ### What the record carries -/

theorem mem_fourAll (j : Fin 4) : j ∈ fourAll := by decide +revert

theorem mem_lanesAll (l : Fin 16) : l ∈ lanesAll := by decide +revert

/-- A step entry stands for each player that begins a step, with its step and that step's levels (R44). -/
theorem mem_stepEntries {after : Vector (Player × Bool × Bool) 4} {e : StepEntry} :
    e ∈ stepEntries after ↔ after[e.player].2.1 = true
      ∧ e = ⟨e.player, after[e.player].1.cursor, after[e.player].1.levels after[e.player].1.cursor⟩ := by
  rw [stepEntries, List.mem_filterMap]
  constructor
  · rintro ⟨j, -, h⟩
    dsimp only at h
    split at h
    · next hb => cases h; exact ⟨hb, rfl⟩
    · cases h
  · rintro ⟨hb, he⟩
    exact ⟨e.player, mem_fourAll _, by rw [if_pos hb, ← he]⟩

theorem stepEntries_pairwise (after : Vector (Player × Bool × Bool) 4) :
    (stepEntries after).Pairwise fun a b => a.player < b.player := by
  refine List.Pairwise.filterMap _ (R := (· < ·)) (fun i j hij a ha b hb => ?_) (by decide)
  dsimp only at ha hb
  split at ha <;> cases ha
  split at hb <;> cases hb
  exact hij

theorem mem_laneChangeEntries {changes : Vector (Option Mute) 16} {l : Fin 16} {m : Mute} :
    (⟨l, m⟩ : LaneChange) ∈ laneChangeEntries changes ↔ changes[l] = some m := by
  rw [laneChangeEntries, List.mem_filterMap]
  constructor
  · rintro ⟨i, -, h⟩
    obtain ⟨m', hm, he⟩ := Option.map_eq_some_iff.1 h
    cases he
    exact hm
  · exact fun h => ⟨l, mem_lanesAll l, by rw [h]; rfl⟩

theorem laneChangeEntries_pairwise (changes : Vector (Option Mute) 16) :
    (laneChangeEntries changes).Pairwise fun a b => a.lane < b.lane := by
  refine List.Pairwise.filterMap _ (R := (· < ·)) (fun i j hij a ha b hb => ?_) (by decide)
  obtain ⟨_, -, rfl⟩ := Option.map_eq_some_iff.1 ha
  obtain ⟨_, -, rfl⟩ := Option.map_eq_some_iff.1 hb
  exact hij

/-- A step's levels are those of its eight cells in the play register (R44). -/
theorem Player.levels_eq_iff (pl : Player) (k : Nat) (ls : Levels) :
    ls = pl.levels k ↔ ∀ q : Fin 8, ls[q] = levelAt pl.register (k * 8 + q.val) := by
  have hget : ∀ q : Fin 8, (pl.levels k)[q] = levelAt pl.register (k * 8 + q.val) := fun q => by
    simp [Player.levels, levelsAt, cellsPerStep]
  refine ⟨fun h q => by rw [h, hget], fun h => ?_⟩
  exact Vector.ext fun i hi => (h ⟨i, hi⟩).trans (hget ⟨i, hi⟩).symm

theorem State.playersAt_get (s : State) (launch : Bool) (j : Fin 4) : (s.playersAt launch)[j] =
    (s.player j).atRecord launch s.gen.position.barStart s.gen.position.index := by
  simp [State.playersAt]

theorem State.atMaking_playersAt (s : State) (launch : Bool) (j : Fin 4) :
    ((s.atMaking launch).playersAt launch)[j] = s.recordPlayer launch j := by
  have hpos : (s.atMaking launch).gen.position = s.gen.position := by
    rw [State.atMaking_eq]
    exact s.firingAt_position launch
  have hplayer : (s.atMaking launch).player j = s.fireCues.state.player j := by
    rw [State.atMaking_eq]
    exact s.firingAt_player launch j
  rw [State.playersAt_get, hpos, hplayer]
  rfl

theorem State.endsBar_iff (s : State) : s.gen.position.lastOfBar s.recordEngine.meter = true ↔ s.endsBar := by
  simp [Position.lastOfBar, State.endsBar]

/-- Settles O24: the record's entries from the players and the cues, the part from the making. -/
theorem madeRecordCarriesStepsAndChanges : Obligations.MadeRecordCarriesStepsAndChanges := by
  intro launch s hmakes x f after
  have hrec := s.recordMade_eq launch
  have hcues := s.made_cues launch
  have hchanges : (s.recordMade launch).laneChanges = laneChangeEntries f.changes :=
    congrArg PulseRecord.laneChanges hrec
  have hsteps : (s.recordMade launch).steps = stepEntries ((s.atMaking launch).playersAt launch) := rfl
  refine ⟨s.made launch, s.recordMade launch, exec_stepRow_made hmakes, s.made_queue launch,
    congrArg PulseRecord.sounded hrec, s.made_player launch, fun j k ls => ?_, ?_, fun l m => ?_, ?_,
    s.made_lastBeat launch, fun h => ?_, fun h hb => ?_, fun h hb => ?_⟩
  · rw [hsteps, mem_stepEntries]
    dsimp only
    rw [State.atMaking_playersAt, StepEntry.mk.injEq]
    refine and_congr_right fun _ => ⟨fun ⟨_, hk, hl⟩ => ⟨hk, ?_⟩, fun ⟨hk, hl⟩ => ⟨rfl, hk, ?_⟩⟩
    · rw [hk]
      exact (Player.levels_eq_iff _ _ _).1 hl
    · rw [hk] at hl
      exact (Player.levels_eq_iff _ _ _).2 hl
  · rw [hsteps]
    exact stepEntries_pairwise _
  · rw [hchanges]
    exact mem_laneChangeEntries
  · rw [hchanges]
    exact laneChangeEntries_pairwise _
  · rw [hcues, if_neg fun h' => h (s.endsBar_iff.1 h'.1), if_neg fun h' => h (s.endsBar_iff.1 h')]
  · rw [hcues, if_neg fun h' => absurd h'.2 (Nat.not_le.2 hb), if_pos (s.endsBar_iff.2 h)]
    rfl
  · rw [hcues, if_pos ⟨s.endsBar_iff.2 h, hb⟩]

end Sys2Proof.Machine

/-! PROOF. The notices given at a making (R46, R112, R134, R179): which go into the record, which are posted. -/

namespace Sys2Proof.Machine

/-! ### Which notices a record takes -/

/-- A port that takes the notice has it placed in the record that is being made (R46, R178). -/
def State.placesNotice (s : State) (g : Port × NoticeBody) : Bool :=
  (s.port g.1).isOpen && decide (g.2.code = 7 ∨ g.2.code = 9 ∨ g.2.code = 10)
    && (s.noticeQueue g.1).enabled.getLsbD g.2.code && decide ((s.noticeQueue g.1).timing = .sound)

theorem State.placesNotice_eq (s : State) (g : Port × NoticeBody) :
    s.placesNotice g = ((s.port g.1).isOpen && s.enables g.1 g.2 && s.goesToRecord g.1 g.2) := by
  rw [State.placesNotice, State.enables, State.goesToRecord, NoticeBody.timed]
  by_cases ht : g.2.code = 7 ∨ g.2.code = 9 ∨ g.2.code = 10
  · have h1 : g.2.code ≠ 1 := by omega
    simp [ht, h1, Bool.and_assoc]
  · simp [ht]

theorem SameMail.placesNotice {s u : State} {g : Port × NoticeBody} (h : SameMail g.1 s u) :
    s.placesNotice g = u.placesNotice g := by
  rw [State.placesNotice, State.placesNotice, h.port, h.queue]

/-- The posting of notices changes nothing of which notices a record takes. -/
theorem State.postAt_placesNotice (s : State) (p : Port) (b : NoticeBody) (x : Option Position) (g : Port × NoticeBody) :
    (s.postAt p b x).placesNotice g = s.placesNotice g := by
  by_cases hpg : p = g.1
  · subst hpg
    by_cases ht : s.TakesNotice g.1 b
    · obtain ⟨hq, hp⟩ := State.postAt_self ht x
      have henabled : ((s.noticeQueue g.1).append ⟨b, low32 s.houseTime, x⟩).enabled = (s.noticeQueue g.1).enabled := by
        unfold NoticeQueue.append
        split <;> rfl
      have htiming : ((s.noticeQueue g.1).append ⟨b, low32 s.houseTime, x⟩).timing = (s.noticeQueue g.1).timing := by
        unfold NoticeQueue.append
        split <;> rfl
      rw [State.placesNotice, hq, hp, henabled, htiming]
      rfl
    · rw [State.postAt_of_not ht]
  · exact (SameMail.postAt_other hpg s b x).placesNotice

/-- The notices that the record does not take are posted; a port that takes none of them sees neither (R46, R179). -/
theorem State.postGiven_mail {s : State} (x : Position) (given : List (Port × NoticeBody)) {v w : State}
    (h : ∀ q, SameMail q v w) (hs : ∀ g, v.placesNotice g = s.placesNotice g) : ∀ q, SameMail q (v.postGiven true x given)
      (given.foldl (fun v g => if s.placesNotice g then v else v.postAt g.1 g.2 (some x)) w) := by
  induction given generalizing v w with
  | nil => exact h
  | cons g given ih =>
    unfold State.postGiven at ih ⊢
    simp only [List.foldl_cons, Bool.true_and] at ih ⊢
    by_cases hp : s.placesNotice g = true
    · have hgoes : v.goesToRecord g.1 g.2 = true := by
        have := hs g
        rw [hp, State.placesNotice_eq] at this
        simp only [Bool.and_eq_true] at this
        exact this.2
      rw [if_pos hp, if_pos hgoes]
      exact ih h hs
    · rw [if_neg hp]
      by_cases hgoes : v.goesToRecord g.1 g.2 = true
      · rw [if_pos hgoes]
        have hnot : ¬ v.TakesNotice g.1 g.2 := fun ⟨ho, he⟩ => hp (by
          rw [← hs g, State.placesNotice_eq, ho, he, hgoes]
          rfl)
        refine ih (fun q => ?_) hs
        have hpost := (h q).postAt g.1 g.2 (some x)
        rwa [State.postAt_of_not hnot] at hpost
      · rw [if_neg hgoes]
        exact ih (fun q => (h q).postAt _ _ _) fun g' => (State.postAt_placesNotice v _ _ _ g').trans (hs g')

/-- The entries of the record, in terms of the notices it takes (R46, R179). -/
theorem State.soundEntries_eq (s : State) (given : List (Port × NoticeBody)) :
    s.soundEntries given = Port.all.filterMap fun p =>
      let own := given.filter fun g => decide (g.1 = p) && s.placesNotice g
      if own = [] then none else some ⟨p, (s.port p).session, own.map fun g => g.2⟩ := by
  refine List.filterMap_congr fun p _ => ?_
  have hown : (given.filter fun g =>
      decide (g.1 = p) && (s.port p).isOpen && s.enables p g.2 && s.goesToRecord p g.2)
      = given.filter fun g => decide (g.1 = p) && s.placesNotice g := by
    refine List.filter_congr fun g _ => ?_
    rw [State.placesNotice_eq]
    by_cases hg : g.1 = p
    · simp [hg, Bool.and_assoc]
    · simp [hg]
  dsimp only
  rw [hown]
  cases given.filter fun g => decide (g.1 = p) && s.placesNotice g with
  | nil => rfl
  | cons g own => rfl

/-- One notice after the other, each with the generator position as it stands. -/
theorem SameMail.foldl_post (ps : List Port) (b : NoticeBody) {x : Position} {v w : State} (h : ∀ q, SameMail q v w)
    (hx : v.gen.position = x) : ∀ q, SameMail q (ps.foldl (fun s p => s.post p b) v)
      (ps.foldl (fun s p => s.postAt p b (some x)) w) := by
  induction ps generalizing v w with
  | nil => exact h
  | cons p ps ih =>
    refine ih (fun q => ?_) (by simpa using hx)
    have hpost := (h q).postAt p b (some x)
    rw [← hx] at hpost ⊢
    exact hpost

/-- TRANSPORT RUNNING goes to every port with the generator position (R24). -/
theorem SameMail.enter_running {x : Position} {v w : State} (h : ∀ q, SameMail q v w) (hx : v.gen.position = x) :
    ∀ q, SameMail q (v.enter .running)
      (Port.all.foldl (fun s p => s.postAt p (.transport .running) (some x)) w) := by
  have hrun : ∀ q, SameMail q { v with transport := { v.transport with state := .running } } w := fun q =>
    ⟨(h q).port, (h q).queue, (h q).time⟩
  rw [State.enter, State.postAll]
  exact SameMail.foldl_post Port.all (.transport .running) hrun hx

/-! ### The part after the record -/

theorem State.made_true (s : State) : s.made true = (makeRecord true (s.firingAt true)).enter .running := rfl

theorem State.made_false (s : State) : s.made false = makeRecord false (s.firingAt false) := rfl

section Posted

variable (s : State) (launch : Bool)

/-- The notices given at a making: the fired cues', HALF_FREE, BAR (R46). -/
def State.givenMade : List (Port × NoticeBody) :=
  (s.atMaking launch).givenAt s.fireCues.given ((s.atMaking launch).playersAt launch)

/-- The part once the given notices are posted (R179). -/
def State.posted : State := (s.atMaking launch).postGiven true s.gen.position (s.givenMade launch)

/-- The part with its record, and stepped on (R29). -/
def State.stepped : State :=
  ({ s.posted launch with
    players := Vector.ofFn fun i => ((s.atMaking launch).playersAt launch)[i].1 }.append (s.recordMade launch)).stepOn

theorem State.atMaking_gen_position : (s.atMaking launch).gen.position = s.gen.position := by
  rw [State.atMaking_eq]
  exact s.firingAt_position launch

theorem State.atMaking_mail (q : Port) : SameMail q (s.atMaking launch) s := by
  have hmail := s.firingAt_mail launch q
  rw [State.atMaking_eq]
  exact ⟨hmail.port, hmail.queue, hmail.time⟩

theorem makeRecord_firingAt : makeRecord launch (s.firingAt launch)
    = (s.stepped launch).wrapDrop s.gen.position s.recordEngine.meter := by
  have hpos := s.atMaking_gen_position launch
  have hengine : (s.atMaking launch).engine = s.recordEngine := by rw [State.atMaking_eq]
  rw [← hpos, ← hengine, State.stepped, State.posted, ← hpos]
  rfl

theorem State.posted_mail (q : Port) : SameMail q (s.posted launch)
    ((s.givenMade launch).foldl (fun v g => if s.placesNotice g then v else v.postAt g.1 g.2 (some s.gen.position)) s) :=
  State.postGiven_mail _ _ (s.atMaking_mail launch) (fun g => (s.atMaking_mail launch g.1).placesNotice) q

theorem State.stepped_mail (q : Port) : SameMail q (s.stepped launch) (s.posted launch) := ⟨rfl, rfl, rfl⟩

theorem State.posted_stands {α : Type} (f : State → α)
    (hf : ∀ (u : State) p n, f { u with ports := p, notices := n } = f u := by intros; rfl) :
    f (s.posted launch) = f (s.atMaking launch) :=
  SameButMail.stands (State.postGiven_frame _ _ _ _) f hf

theorem State.stepped_position :
    (s.stepped launch).gen.position = s.gen.position.advance s.recordEngine.meter := by
  have hgen := s.posted_stands launch State.gen
  have hengine := s.posted_stands launch State.engine
  have hmade : (s.atMaking launch).engine = s.recordEngine := by rw [State.atMaking_eq]
  change (s.posted launch).gen.position.advance (s.posted launch).engine.meter = _
  rw [hgen, hengine, hmade, s.atMaking_gen_position]

theorem State.stepped_cues (h : s.endsBar) :
    (s.stepped launch).cues = s.fireCues.state.cues.map s.carriedCue := by
  have hgen := s.posted_stands launch State.gen
  have hengine := s.posted_stands launch State.engine
  have hcues := s.posted_stands launch State.cues
  have hmade : (s.atMaking launch).engine = s.recordEngine := by rw [State.atMaking_eq]
  have hpool : (s.atMaking launch).cues = s.fireCues.state.cues := by
    rw [State.atMaking_eq]
    exact s.firingAt_cues launch
  change (if (s.posted launch).gen.position.lastOfBar (s.posted launch).engine.meter then
    carryCues (s.posted launch).gen.position.bar (s.posted launch).engine.meter (s.posted launch).cues
    else (s.posted launch).cues) = _
  rw [hgen, hengine, hcues, hmade, hpool, s.atMaking_gen_position, if_pos (s.endsBar_iff.2 h)]
  rfl

/-- After the last pulse of bar 65535 the drops follow the notices of the making; elsewhere nothing does (R117). -/
theorem makeRecord_mail {u relocated : State} (hu : ∀ q, SameMail q (s.posted launch) u)
    (hends : s.endsBar → relocated =
      (if s.gen.position.bar < 65535 then [] else s.fireCues.state.cues.map s.carriedCue).foldl (fun v c =>
        v.postAt c.owner (.cueDropped c.id c.tag c.action.kind .relocated c.fire)
          (some (s.gen.position.advance s.recordEngine.meter))) u)
    (hnot : ¬ s.endsBar → relocated = u) :
    ∀ q, SameMail q (makeRecord launch (s.firingAt launch)) relocated := by
  have hmail : ∀ q, SameMail q (s.stepped launch) u := fun q => (s.stepped_mail launch q).trans (hu q)
  rw [makeRecord_firingAt, State.wrapDrop]
  by_cases he : s.endsBar
  · by_cases hb : s.gen.position.bar < 65535
    · rw [if_neg fun h => absurd h.2 (Nat.not_le.2 hb), hends he, if_pos hb]
      exact hmail
    · rw [if_pos ⟨s.endsBar_iff.2 he, Nat.not_lt.1 hb⟩, hends he, if_neg hb]
      obtain ⟨htold, -⟩ := toldOfDrops_foldl (s.stepped launch).cues hmail (s.stepped_position launch)
      rw [s.stepped_cues launch he] at htold
      intro q
      refine SameMail.trans ?_ (htold q)
      rw [← s.stepped_cues launch he]
      exact ⟨rfl, rfl, rfl⟩
  · rw [if_neg fun h => he (s.endsBar_iff.1 h.1), hnot he]
    exact hmail

end Posted

/-- The HALF_FREE notice of player `j` at a making, for its holder, if it crosses (R134). -/
def State.crossing (s : State) (launch : Bool) (j : Fin 4) : Option (Port × NoticeBody) :=
  if (s.recordPlayer launch j).2.2 then
    (s.playerHolder j).map fun p => (p,
      if (s.recordPlayer launch j).1.cursor < 32 then
        .halfFree j .upper (s.recordPlayer launch j).1.cursor (s.recordPlayer launch j).1.sourceLower
      else .halfFree j .lower (s.recordPlayer launch j).1.cursor (s.recordPlayer launch j).1.sourceUpper)
  else none

theorem State.atMaking_halfFrees (s : State) (launch : Bool) :
    (s.atMaking launch).halfFrees ((s.atMaking launch).playersAt launch) = fourAll.filterMap (s.crossing launch) := by
  have hholder : ∀ j, (s.atMaking launch).playerHolder j = s.playerHolder j := fun j => by
    have h : (s.firingAt launch).state.playerClaims = s.fireCues.state.playerClaims :=
      (s.firingAt_touches launch .claims (by simp)).2
    have h' : s.fireCues.state.playerClaims = s.playerClaims := (fireCues_touches s .claims (by simp)).2
    rw [State.atMaking_eq]
    exact congrArg (fun v : Vector (Option Port) 4 => v[j]) (h.trans h')
  refine List.filterMap_congr fun j _ => ?_
  dsimp only
  rw [State.atMaking_playersAt, hholder, State.crossing]
  cases (s.recordPlayer launch j).2.2 with
  | false => rfl
  | true =>
    cases s.playerHolder j with
    | none => rfl
    | some p =>
      by_cases hc : (s.recordPlayer launch j).1.cursor < 32 <;> simp [halfOf, hc, Half.other, Player.source]

/-- The BAR notices of a making (R179). -/
theorem State.atMaking_barNotices (s : State) (launch : Bool) : (s.atMaking launch).barNotices =
    if s.gen.position.beat = 1 ∧ s.gen.position.pulse = 0 then
      [(.a, .bar), (.b, .bar), (.c, .bar), (.d, .bar)] else [] := by
  rw [State.barNotices, s.atMaking_gen_position]
  simp [Position.barStart, Port.all]

/-- Settles O25: the notices in the record by `soundEntries_eq`, the others by `makeRecord_mail`. -/
theorem makingPlacesOrPostsItsNotices : Obligations.MakingPlacesOrPostsItsNotices := by
  intro launch s hmakes x f after crossings bars given placed entry next posted dropped
  have hcross : fourAll.filterMap (s.crossing launch) = crossings := by
    refine List.filterMap_congr fun j _ => ?_
    unfold State.crossing
    dsimp only [after]
    cases (s.recordPlayer launch j).2.2 <;> cases s.playerHolder j <;> rfl
  have hgiven : s.givenMade launch = given := by
    rw [State.givenMade, State.givenAt, State.atMaking_halfFrees, State.atMaking_barNotices, hcross]
  have hsounds : (s.recordMade launch).sounds = Port.all.filterMap entry := by
    have hentries := (s.atMaking launch).soundEntries_eq (s.givenMade launch)
    have hrec : (s.recordMade launch).sounds = (s.atMaking launch).soundEntries (s.givenMade launch) := rfl
    rw [hrec, hentries, hgiven]
    refine List.filterMap_congr fun p _ => ?_
    have hport := (s.atMaking_mail launch p).port
    have hown : (given.filter fun g => decide (g.1 = p) && (s.atMaking launch).placesNotice g)
        = given.filter fun g => decide (g.1 = p) && placed g :=
      List.filter_congr fun g _ => by rw [(s.atMaking_mail launch g.1).placesNotice]; rfl
    dsimp only [entry]
    rw [hown, hport]
  refine ⟨s.made launch, s.recordMade launch, exec_stepRow_made hmakes, s.made_queue launch, hsounds,
    fun relocated hends hnot => ?_⟩
  intro told
  have hposted : ∀ q, SameMail q (s.posted launch) posted := fun q => by
    have h := s.posted_mail launch q
    rw [hgiven] at h
    exact h
  have hmail := makeRecord_mail s launch hposted hends hnot
  have htold : ∀ q, SameMail q (s.made launch) told := by
    cases launch with
    | false =>
      rw [State.made_false]
      exact hmail
    | true =>
      rw [State.made_true]
      have hnext : (makeRecord true (s.firingAt true)).gen.position = next := by
        rw [makeRecord_gen, State.firingAt_makingEngine, State.firingAt_position]
      have htold : told = Port.all.foldl (fun v p => v.postAt p (.transport .running) (some next)) relocated := if_pos rfl
      rw [htold]
      exact SameMail.enter_running hmail hnext
  obtain ⟨hp, hn⟩ := ports_eq_of_sameMail htold
  exact ⟨hn, hp⟩

end Sys2Proof.Machine

/-! PROOF. The sounding and the retirement of records (sections 2.4, 3.3, 10.2), and the stop point (section 2.4). -/

namespace Sys2Proof.Machine

/-! ### Several notices to one port -/

/-- Notices are put to port `p`'s queue in turn. -/
def State.giveAll (s : State) (p : Port) (ns : List Notice) : State := ns.foldl (fun s n => s.give p n) s

/-- A queue takes notices while it holds fewer than 16, and overflows with the rest (R177). -/
def NoticeQueue.appendAll (q : NoticeQueue) (ns : List Notice) : NoticeQueue :=
  { q with
    queue := q.queue ++ ns.take (16 - q.queue.length)
    overflowed := q.overflowed || decide (16 - q.queue.length < ns.length) }

theorem NoticeQueue.appendAll_nil (q : NoticeQueue) : q.appendAll [] = q := by
  simp [NoticeQueue.appendAll]

theorem NoticeQueue.appendAll_cons (q : NoticeQueue) (n : Notice) (ns : List Notice) :
    q.appendAll (n :: ns) = (q.append n).appendAll ns := by
  unfold NoticeQueue.append Config.noticeDepth
  by_cases h : q.queue.length < 16
  · rw [if_pos h]
    obtain ⟨k, hk⟩ : ∃ k, 16 - q.queue.length = k + 1 := ⟨15 - q.queue.length, by omega⟩
    have hk' : 16 - (q.queue.length + 1) = k := by omega
    simp [NoticeQueue.appendAll, hk, hk']
  · rw [if_neg h]
    have hk : 16 - q.queue.length = 0 := by omega
    simp [NoticeQueue.appendAll, hk]

theorem State.give_of_closed {s : State} {p : Port} (h : (s.port p).isOpen = false) (n : Notice) : s.give p n = s := by
  rw [State.give, if_neg (by rw [h]; exact Bool.false_ne_true)]

theorem State.give_of_open {s : State} {p : Port} (h : (s.port p).isOpen = true) (n : Notice) :
    (s.give p n).noticeQueue p = (s.noticeQueue p).append n
      ∧ (s.give p n).port p = { s.port p with
          attn := decide (((s.noticeQueue p).append n).queue ≠ []) && (s.port p).attention } := by
  have hqueue : ∀ d, (s.setNoticeQueue p d).noticeQueue p = d := fun d => by
    rw [State.setNoticeQueue_noticeQueue, if_pos rfl]
  rw [State.give, if_pos h]
  refine ⟨by rw [State.refreshAttn_noticeQueue, hqueue], ?_⟩
  rw [State.refreshAttn_port, if_pos rfl, State.attnLevel, hqueue, State.setNoticeQueue_port]
  cases ((s.noticeQueue p).append n).queue <;> rfl

/-- A closed port, or no notice: nothing. Otherwise the queue takes what it can, and ATTN follows (R177, R180). -/
theorem State.giveAll_spec (s : State) (p : Port) (ns : List Notice) :
    ((s.port p).isOpen = false ∨ ns = [] → s.giveAll p ns = s)
      ∧ ((s.port p).isOpen = true → ns ≠ [] →
        (s.giveAll p ns).noticeQueue p = (s.noticeQueue p).appendAll ns
          ∧ (s.giveAll p ns).port p = { s.port p with
              attn := decide (((s.noticeQueue p).appendAll ns).queue ≠ []) && (s.port p).attention }) := by
  induction ns generalizing s with
  | nil => exact ⟨fun _ => rfl, fun _ h => absurd rfl h⟩
  | cons n ns ih =>
    have hcons : s.giveAll p (n :: ns) = (s.give p n).giveAll p ns := rfl
    obtain ⟨hnone, hsome⟩ := ih (s.give p n)
    rw [hcons]
    refine ⟨fun h => ?_, fun ho _ => ?_⟩
    · obtain hc | h := h
      · rw [State.give_of_closed hc] at hnone ⊢
        exact hnone (.inl hc)
      · cases h
    · obtain ⟨hq, hp⟩ := State.give_of_open ho n
      rw [NoticeQueue.appendAll_cons, ← hq]
      by_cases hns : ns = []
      · subst hns
        rw [hnone (.inr rfl), NoticeQueue.appendAll_nil, hp, hq]
        exact ⟨rfl, rfl⟩
      · obtain ⟨hq', hp'⟩ := hsome (by rw [hp]; exact ho) hns
        exact ⟨hq', by rw [hp', hp]⟩

/-- What is put to another port's queue leaves a port's mail. -/
theorem SameMail.give_other {p q : Port} (h : p ≠ q) (s : State) (n : Notice) : SameMail q (s.give p n) s := by
  unfold State.give
  split
  · refine ⟨?_, ?_, by simp⟩
    · rw [State.refreshAttn_port, if_neg h, State.setNoticeQueue_port]
    · rw [State.refreshAttn_noticeQueue, State.setNoticeQueue_noticeQueue, if_neg h]
  · exact SameMail.refl q s

theorem SameMail.giveAll_other {p q : Port} (h : p ≠ q) (s : State) (ns : List Notice) : SameMail q (s.giveAll p ns) s := by
  induction ns generalizing s with
  | nil => exact SameMail.refl q s
  | cons n ns ih => exact (ih (s.give p n)).trans (SameMail.give_other h s n)

theorem State.giveAll_houseTime (s : State) (p : Port) (ns : List Notice) : (s.giveAll p ns).houseTime = s.houseTime := by
  induction ns generalizing s with
  | nil => rfl
  | cons n ns ih =>
    refine (ih (s.give p n)).trans ?_
    unfold State.give
    split
    · simp
    · rfl

/-- The same notices leave the same mail the same. -/
theorem SameMail.giveAll {p : Port} {s u : State} (h : SameMail p s u) (ns : List Notice) :
    SameMail p (s.giveAll p ns) (u.giveAll p ns) := by
  obtain ⟨hnone, hsome⟩ := s.giveAll_spec p ns
  obtain ⟨hnone', hsome'⟩ := u.giveAll_spec p ns
  by_cases hc : (s.port p).isOpen = false ∨ ns = []
  · rw [hnone hc, hnone' (by rwa [← h.port])]
    exact h
  · obtain ⟨ho, hns⟩ := not_or.1 hc
    have ho : (s.port p).isOpen = true := by simpa using ho
    obtain ⟨hq, hp⟩ := hsome ho hns
    obtain ⟨hq', hp'⟩ := hsome' (by rwa [← h.port]) hns
    exact ⟨by rw [hp, hp', h.port, h.queue], by rw [hq, hq', h.queue], by rw [State.giveAll_houseTime, State.giveAll_houseTime, h.time]⟩

theorem State.giveAll_append (s : State) (p : Port) (ns ms : List Notice) :
    s.giveAll p (ns ++ ms) = (s.giveAll p ns).giveAll p ms := List.foldl_append

theorem State.giveAll_session (s : State) (p : Port) (ns : List Notice) :
    ((s.giveAll p ns).port p).session = (s.port p).session := by
  obtain ⟨hnone, hsome⟩ := s.giveAll_spec p ns
  cases ho : (s.port p).isOpen with
  | false => rw [hnone (.inl ho)]
  | true =>
    by_cases hns : ns = []
    · rw [hnone (.inr hns)]
    · rw [(hsome ho hns).2]

/-! ### The sounding of a record -/

/-- The notices of one entry of a record, as they are put to its port's queue (R179). -/
def SoundEntry.notices (r : PulseRecord) (e : SoundEntry) : List Notice :=
  e.bodies.map fun k => ⟨k, low32 r.refTime, some r.position⟩

theorem State.giveEntry_eq (s : State) (r : PulseRecord) (e : SoundEntry) :
    s.giveEntry r e = if (s.port e.port).session = e.session then s.giveAll e.port (e.notices r) else s := by
  rw [State.giveEntry, State.giveAll, SoundEntry.notices, List.foldl_map]

/-- A port is put the notices of its own entries of the record, those of its present session (R49, R179). -/
theorem State.giveEntry_foldl (p : Port) (r : PulseRecord) (es : List SoundEntry) {s u w : State} (h : SameMail p s u)
    (hw : (u.port p).session = (w.port p).session) : SameMail p (es.foldl (fun s e => s.giveEntry r e) s)
      (u.giveAll p ((es.filter fun e => decide (e.port = p ∧ e.session = (w.port p).session)).flatMap
        fun e => e.notices r)) := by
  induction es generalizing s u with
  | nil => exact h
  | cons e es ih =>
    rw [List.foldl_cons, State.giveEntry_eq]
    by_cases hp : e.port = p
    · have hsession : (s.port e.port).session = (w.port p).session := by rw [hp, h.port, hw]
      by_cases he : e.session = (w.port p).session
      · rw [if_pos (hsession.trans he.symm), List.filter_cons_of_pos (by simpa using ⟨hp, he⟩), List.flatMap_cons,
          State.giveAll_append, hp]
        refine ih ?_ ((State.giveAll_session u p _).trans hw)
        exact h.giveAll _
      · rw [if_neg fun e' => he (e'.symm.trans hsession), List.filter_cons_of_neg (by simp [he])]
        exact ih h hw
    · rw [List.filter_cons_of_neg (by simp [hp])]
      refine ih ?_ hw
      split
      · exact (SameMail.giveAll_other hp s _).trans h
      · exact h

/-- The first record that has not sounded is found behind those that have (R49). -/
theorem find_unsounded {a b : List PulseRecord} {r : PulseRecord} (ha : ∀ x ∈ a, x.sounded = true)
    (hr : r.sounded = false) : (a ++ r :: b).find? (fun r => !r.sounded) = some r := by
  have hnone : a.find? (fun r => !r.sounded) = none := List.find?_eq_none.2 fun x hx => by simp [ha x hx]
  simp [List.find?_append, hnone, hr]

theorem markSounded_append {a b : List PulseRecord} {r : PulseRecord} (ha : ∀ x ∈ a, x.sounded = true)
    (hr : r.sounded = false) : markSounded (a ++ r :: b) = a ++ { r with sounded := true } :: b := by
  induction a with
  | nil => simp [markSounded, hr]
  | cons x a ih =>
    rw [List.cons_append, markSounded, if_pos (ha x List.mem_cons_self),
      ih fun y hy => ha y (List.mem_cons_of_mem x hy)]
    rfl

/-- What the sounding of a record does to a port's mail (R49, R177, R179). -/
theorem State.sound_mail (s : State) (r : PulseRecord) (p : Port) : SameMail p (s.sound r)
    (s.giveAll p ((r.sounds.filter fun e => decide (e.port = p ∧ e.session = (s.port p).session)).flatMap
      fun e => e.notices r)) :=
  State.giveEntry_foldl p r r.sounds (w := s) ⟨rfl, rfl, rfl⟩ rfl

/-- Settles O26, event by event. -/
theorem queueEventsComeAtTheirInstants : Obligations.QueueEventsComeAtTheirInstants := by
  unfold Obligations.QueueEventsComeAtTheirInstants
  intro stopped
  have hstopped : ∀ s : State, s.drained = stopped s := fun _ => rfl
  refine ⟨fun r q s hq => ?_, fun t s hs ht => ?_, fun a b r s hq ha hr => ⟨fun h => ?_, fun h => ?_⟩⟩
  · have hdue : s.retireDue = decide ((r.refTime + 250001).toNat ≤ s.houseTime.toNat) := by
      rw [State.retireDue, hq]
      rfl
    rw [exec, execRecordRetires, hdue, State.retire_cons hq, ← hstopped]
    simp only [decide_eq_true_eq]
  · have hdue : s.drainingDue = decide ((t + 250001).toNat ≤ s.houseTime.toNat) := by
      rw [State.drainingDue, hs, ht]
      exact Bool.true_and _
    rw [exec, execDrainingEnd, hdue, ← hstopped]
    simp only [decide_eq_true_eq]
  · have hnext : s.nextToSound = none := by
      simp [State.nextToSound, hq, find_unsounded ha hr, State.reached, Nat.not_le.2 h]
    rw [exec, execRecordSounds, hnext]
  · have hnext : s.nextToSound = some r := by
      simp [State.nextToSound, hq, find_unsounded ha hr, State.reached, h]
    have hframe := s.sound_frame r
    rw [hq, markSounded_append ha hr] at hframe
    refine ⟨s.sound r, by rw [exec, execRecordSounds, hnext], hframe, fun p => ?_⟩
    intro own posted q room after
    have hmail : SameMail p (s.sound r) (s.giveAll p posted) := s.sound_mail r p
    obtain ⟨hnone, hsome⟩ := s.giveAll_spec p posted
    refine ⟨fun h => ?_, fun ho hne => ?_⟩
    · rw [hnone h] at hmail
      exact ⟨hmail.queue, hmail.port⟩
    · obtain ⟨hq', hp'⟩ := hsome ho hne
      exact ⟨hmail.queue.trans hq', hmail.port.trans hp'⟩

end Sys2Proof.Machine

/-! PROOF. The stop point (sections 2.1, 2.3, 2.4, 3.2, 6.4): what reaching it does, and the steps that reach it. -/

namespace Sys2Proof.Machine

/-- The part as a stop point with records in the queue leaves it, but for the notice (R33, R47). -/
def State.draining (s : State) (r : PulseRecord) : State :=
  State.tellLast { s.playersStop with
    queue := markNewest s.queue
    transport := { s.transport with state := .draining, stopPoint := some s.gen.position, rLast := some r.refTime } } r

theorem State.reachStop_of_record {s : State} {q : List PulseRecord} {r : PulseRecord} (h : s.queue = q ++ [r]) :
    s.reachStop = State.postAll (s.draining { r with markers := { r.markers with last := true } })
      (.transport .draining) := by
  have hq : (markNewest s.playersStop.queue).getLast?
      = some { r with markers := { r.markers with last := true } } := by
    change (markNewest s.queue).getLast? = _
    rw [h, markNewest_concat]
    simp
  unfold State.reachStop
  dsimp only
  rw [hq]
  rfl

/-- The part as a stop point with an empty queue leaves it, but for the notice (R33, R34). -/
def State.stopped (s : State) : State :=
  { s.playersStop with
    engine := { s.engine with slip := 0 }, lastBeat := none
    transport := ⟨.stopped, s.transport.horizonMs, none, none, none⟩ }

theorem State.reachStop_of_none {s : State} (h : s.queue = []) :
    s.reachStop = State.postAll s.stopped (.transport .stopped) := by
  rw [State.reachStop_of_empty h]
  rfl

theorem markNewest_length (q : List PulseRecord) : (markNewest q).length = q.length := by
  have h := congrArg List.length (markNewest_map (f := PulseRecord.pulse) (fun _ _ => rfl) q)
  simpa using h

/-- A stop point that is reached begins DRAINING, or with no record left ends in STOPPED (R33). -/
theorem State.reachStop_state (s : State) :
    s.reachStop.transport.state = if s.queue = [] then .stopped else .draining := by
  obtain hq | ⟨q, r, hq⟩ := List.eq_nil_or_concat' s.queue
  · rw [if_pos hq, State.reachStop_of_empty hq, State.toStopped_transport]
  · rw [if_neg (by rw [hq]; simp), State.reachStop_transport_of_record hq]

theorem Player.stopPlace_of_jump {pl : Player} {j : Nat} (hp : pl.primed = true) (hj : pl.rowJump = some j) :
    pl.stopPlace = { pl with cursor := j, rowJump := none } := by
  simp [Player.stopPlace, hp, hj]

theorem Player.stopPlace_of_none {pl : Player} (h : pl.primed = false ∨ pl.rowJump = none) : pl.stopPlace = pl := by
  obtain h | h := h <;> simp [Player.stopPlace, h]

/-! ### The steps that reach it -/

/-- The lane changes handed to the lanes at once, where a STOP cue ends the step (R111). -/
theorem State.handChanges_fired (s : State) : s.fireCues.state.handChanges s.fireCues.changes =
    { s.fireCues.state with lanes := (s.handChanges s.fireCues.changes).lanes } := by
  have hlane : ∀ l, s.fireCues.state.lane l = s.lane l := fun l => (fireCues_touches s).lane l
  unfold State.handChanges
  simp only [hlane]

/-- With no record made every notice is posted, whatever its port's timing (R111). -/
theorem State.postGiven_stop (s : State) (x : Position) (given : List (Port × NoticeBody)) :
    s.postGiven false x given = given.foldl (fun v g => v.postAt g.1 g.2 (some x)) s := rfl

theorem exec_step_stop {i : Instr} {s : State}
    (h : (i = .generatorStep ∧ s.generatorDue = true) ∨ (i = .launchStep ∧ s.launchDue = true))
    (hp : s.transport.stopPoint ≠ some s.gen.position) (hc : s.fireCues.stop = true) :
    exec i s = .next (stopStep s.fireCues) := by
  obtain ⟨rfl, hd⟩ | ⟨rfl, hd⟩ := h
  · rw [exec, execGeneratorStep, if_pos hd, State.generate, if_neg hp]
    exact congrArg _ (if_pos hc)
  · rw [exec, execLaunchStep, if_pos hd, State.launch, if_neg hp]
    exact congrArg _ (if_pos hc)

/-- Settles O19: the two endings of a run, and the steps that come to them. -/
theorem stopPointEndsTheRun : Obligations.StopPointEndsTheRun := by
  refine ⟨fun s => ?_, fun s hd hp => ?_, fun i s hi hp hc => ?_⟩
  · intro t
    refine ⟨s.reachStop_gen, reachStop_touches s .cues (by simp [stopBlocks]), fun i => ?_, fun hq => ?_, fun q r hq => ?_⟩
    · rw [State.reachStop_player]
      split
      · next j hp hj => exact Player.stopPlace_of_jump hp hj
      · next hnot =>
        refine Player.stopPlace_of_none ?_
        cases hp : (s.player i).primed with
        | false => exact .inl rfl
        | true =>
          cases hj : (s.player i).rowJump with
          | none => exact .inr rfl
          | some j => exact (hnot j hp hj).elim
    · have ht : t = State.postAll s.stopped (.transport .stopped) := State.reachStop_of_none hq
      have hframe := s.stopped.postAll_frame (.transport .stopped)
      rw [← ht] at hframe
      have hplayers := hframe.stands State.players
      have hengine := hframe.stands State.engine
      have htransport := hframe.stands State.transport
      refine ⟨(hframe.stands State.queue).trans hq, hengine, hframe.stands State.lastBeat, hframe.stands State.lanes,
        htransport, ?_⟩
      rw [hplayers, hengine, htransport]
      exact ht
    · intro r'
      have ht : t = State.postAll (s.draining r') (.transport .draining) := State.reachStop_of_record hq
      have hframe := (s.draining r').postAll_frame (.transport .draining)
      rw [← ht] at hframe
      have hplayers := hframe.stands State.players
      have hqueue := hframe.stands State.queue
      have hlanes := hframe.stands State.lanes
      have htransport := hframe.stands State.transport
      have hrecords : (s.draining r').queue = q ++ [r'] := by
        rw [← markNewest_concat, ← hq]
        rfl
      refine ⟨hqueue.trans hrecords, hframe.stands State.engine, hframe.stands State.lastBeat, htransport, ?_, fun l => ?_⟩
      · rw [hplayers, hqueue, hlanes, htransport]
        exact ht
      · rw [State.lane, hlanes]
        exact State.tellLast_lane _ r' l
  · rw [exec, execGeneratorStep, if_pos hd, State.generate, if_pos hp]
  · refine ⟨stopStep s.fireCues, exec_step_stop hi hp hc, ?_⟩
    have hbefore : s.fireCues.beforeStop.queue = s.queue :=
      Eq.trans (Firing.beforeStop_touches s.fireCues .queue (by simp) : _ = _) s.fireCues_queue
    have hgen : s.fireCues.beforeStop.gen = s.gen :=
      Eq.trans (Firing.beforeStop_touches s.fireCues .gen (by simp) : _ = _) s.fireCues_gen
    rw [stopStep_eq]
    refine ⟨(State.reachStop_gen _).trans hgen, ?_, ?_, ?_⟩
    · rw [State.reachStop_queue, hbefore, markNewest_length]
    · rw [State.reachStop_state, hbefore]
    · intro f handed
      have hhanded : f.state.handChanges f.changes = handed := by
        refine s.handChanges_fired.trans (congrArg (fun v : Vector Lane 16 => { f.state with lanes := v }) ?_)
        refine congrArg Vector.ofFn (funext fun l => ?_)
        cases f.changes[l] <;> rfl
      rw [Firing.beforeStop, State.postGiven_stop, hhanded, State.fireCues_gen]

end Sys2Proof.Machine

/-! PROOF. Taps (chapter 5): what a ring gives, what a change of state does, edges, and the lock loop. -/

namespace Sys2Proof.Machine

/-! ### What a ring gives -/

theorem tapStateOf_silent_iff (n : Nat) : tapStateOf n = .silent ↔ n = 0 := by
  unfold tapStateOf
  split
  · simp [*]
  · split <;> simp [*]

theorem tapStateOf_steady_iff (n : Nat) : tapStateOf n = .steady ↔ 4 ≤ n := by
  unfold tapStateOf
  split
  · simp [*]
  · split
    · simp; omega
    · simp; omega

section Ring

variable {ring mid : List Time} {oldest newest : Time}

theorem meanEdge_of_short (h : ring.length < 2) : meanEdge ring = none := if_pos h

theorem measuredIntervalOf_of_short (h : ring.length < 2) (k : Nat) : measuredIntervalOf k ring = none := if_pos h

theorem measuredIntervalOf_ends (k : Nat) : measuredIntervalOf k (oldest :: (mid ++ [newest])) =
    some (max 136533333 (min 2048000000
      ((2 * (newest - oldest).toInt.toNat * 65536 * k + 96 * (mid.length + 1)) / (192 * (mid.length + 1))))) := by
  rw [measuredIntervalOf, if_neg (by simp), ringSpan_eq]
  simp [clampNat, Config.intervalMin, Config.intervalMax]

end Ring

/-! ### A change of state -/

/-- A tap's lead given up to nobody: the tap leaves follow mode (R72, R89). -/
theorem State.freewheels_of_tap {s : State} {k : Fin 4} (h : s.arbiter.leader = .tap k) (r : FreewheelReason) :
    s.freewheels r = State.postAll { s.setTap k { s.tap k with follow := false } with
      arbiter := { s.arbiter with leader := .nobody, silenceExpiry := none }
      engine := { s.engine with slip := 0 } } (.freewheel r (.tap k)) := by
  have htaps : (s.setLeader .nobody).taps = (s.setTap k { s.tap k with follow := false }).taps :=
    taps_eq_of_tap fun j => by
      rw [s.setLeader_tap_of_not_tap (by simp), h, State.setTap_tap]
      by_cases hj : k = j
      · rw [if_pos hj, if_pos (congrArg _ hj), hj]
      · rw [if_neg hj, if_neg fun e => hj (Leader.tap.inj e)]
  rw [State.freewheels, h]
  exact congrArg (fun v => State.postAll { s with
    arbiter := { s.arbiter with leader := .nobody, silenceExpiry := none }
    engine := { s.engine with slip := 0 }, taps := v } (.freewheel r (.tap k))) htaps

section Change

variable {s : State} {k : Fin 4} {v : Tap}

/-- The part told of a tap's new state (R97). -/
def State.tapTold (s : State) (k : Fin 4) (v : Tap) (cause : TapCause) : State :=
  State.postAll (s.setTap k v) (.tapState k v.state cause v.ring.length v.measuredTempo)

theorem State.changeTap_of_same (h : (s.tap k).state = v.state) (cause : TapCause) :
    s.changeTap k v cause = s.setTap k v := if_pos h

theorem State.changeTap_eq (h : (s.tap k).state ≠ v.state) (cause : TapCause) : s.changeTap k v cause =
    if s.arbiter.leader = .tap k ∧ v.state ≠ .steady then (s.tapTold k v cause).freewheels .tapLost
    else s.tapTold k v cause := by
  have hnotice : (s.setTap k v).tapNotice k cause = .tapState k v.state cause v.ring.length v.measuredTempo := by
    rw [State.tapNotice, State.setTap_tap_self]
  have hlead : (s.tapTold k v cause).arbiter.leader = s.arbiter.leader :=
    (State.postAll_frame _ _).stands fun u => u.arbiter.leader
  have htold : (s.setTap k v).postAll ((s.setTap k v).tapNotice k cause) = s.tapTold k v cause := by
    rw [hnotice, State.tapTold]
  refine (if_neg h).trans ?_
  rw [htold, hlead]

end Change

/-- Settles O32: the ring from its ends, a change of state by the cases of `changeTap`. -/
theorem ringGivesStateAndChangesAreTold : Obligations.RingGivesStateAndChangesAreTold := by
  refine ⟨fun tap ring => ?_, fun k v cause s => ?_⟩
  · intro t
    refine ⟨rfl, tapStateOf_silent_iff _, tapStateOf_steady_iff _, fun h => ?_, fun oldest newest mid h => ?_⟩
    · have hi : t.measuredInterval = none := measuredIntervalOf_of_short h _
      exact ⟨meanEdge_of_short h, hi, congrArg (Option.map tempoOf) hi⟩
    · intro span gaps
      rw [h]
      refine ⟨meanEdge_eq _ _ _, fun _ => ?_⟩
      intro i
      have hi : t.measuredInterval = some i := by
        change measuredIntervalOf tap.k ring = _
        rw [h, measuredIntervalOf_ends]
      refine ⟨hi, ?_, congrArg (Option.map tempoOf) hi⟩
      unfold IntervalLegal
      omega
  · intro told
    refine ⟨fun h => State.changeTap_of_same h cause, fun h => ⟨fun hkeep => ?_, fun hl hv => ?_⟩⟩
    · rw [State.changeTap_eq h, if_neg (by tauto)]
      rfl
    · have hframe : SameButMail (s.setTap k v) told := State.postAll_frame _ _
      have harb : told.arbiter = s.arbiter := hframe.stands State.arbiter
      have hengine : told.engine = s.engine := hframe.stands State.engine
      have htap : told.tap k = v := (hframe.stands fun u => u.tap k).trans (State.setTap_tap_self _ _ _)
      have hlead : told.arbiter.leader = .tap k := by rw [harb]; exact hl
      rw [State.changeTap_eq h, if_pos ⟨hl, hv⟩]
      change told.freewheels .tapLost = _
      rw [State.freewheels_of_tap hlead, htap, harb, hengine]

/-! ### Edges -/

theorem Tap.captured_eq (v : Tap) (now : Time) : v.captured now = now - BitVec.ofInt 64 v.offset := by
  rw [Tap.captured, shifted, BitVec.ofInt_neg, BitVec.sub_eq_add_neg]

/-- Against a ring of three or more an edge is an outlier when its distance from the newest is off the mean by more
than an eighth of it (R83). -/
def Outlier (ring : List Time) (e : Time) : Prop :=
  ∃ (oldest newest : Time) (mid : List Time), ring = oldest :: (mid ++ [newest]) ∧ 1 ≤ mid.length ∧
    let mean : Int := (newest - oldest).toInt / ((mid.length + 1 : Nat) : Int)
    mean < 8 * |(e - newest).toInt - mean|

theorem isOutlier_iff (ring : List Time) (e : Time) : isOutlier ring e = true ↔ Outlier ring e := by
  have hends : ∀ oldest newest mid, ring = oldest :: (mid ++ [newest]) → (isOutlier ring e = true ↔
      1 ≤ mid.length ∧ (newest - oldest).toInt / ((mid.length + 1 : Nat) : Int)
        < 8 * |(e - newest).toInt - (newest - oldest).toInt / ((mid.length + 1 : Nat) : Int)|) := by
    rintro oldest newest mid rfl
    have hlen : 3 ≤ (oldest :: (mid ++ [newest])).length ↔ 1 ≤ mid.length := by
      rw [List.length_cons, List.length_append, List.length_singleton]
      omega
    rw [isOutlier, meanEdge_eq, ring_getLast?, Bool.and_eq_true, decide_eq_true_iff, hlen]
    simp [signedDiff]
  constructor
  · intro h
    obtain ⟨oldest, mid, newest, hr⟩ := exists_ends ring (Nat.le_of_succ_le (isOutlier_length h))
    exact ⟨oldest, newest, mid, hr, (hends oldest newest mid hr).1 h⟩
  · rintro ⟨oldest, newest, mid, hr, h⟩
    exact (hends oldest newest mid hr).2 h

/-- The silence deadline: four mean intervals where the ring makes the tap STEADY, 2 s elsewhere (R85). -/
theorem silenceDeadline_eq (now : Time) (ring : List Time) : silenceDeadline now ring =
    now + BitVec.ofNat 64 (if 4 ≤ ring.length then (4 * (meanEdge ring).getD 0).toNat else 2000000) := by
  unfold silenceDeadline
  by_cases h : 4 ≤ ring.length
  · obtain ⟨oldest, mid, newest, hr⟩ := exists_ends ring (by omega)
    have hm := meanEdge_eq oldest newest mid
    rw [← hr] at hm
    rw [(tapStateOf_steady_iff _).2 h, hm, if_pos h]
    rfl
  · have hstate : tapStateOf ring.length ≠ .steady := mt (tapStateOf_steady_iff _).1 h
    rw [if_neg h]
    cases hs : tapStateOf ring.length with
    | silent => rfl
    | learning => rfl
    | steady => exact absurd hs hstate

/-- The tap that an entering edge makes of it (R84, R85). -/
def Tap.taken (tap : Tap) (now : Time) (ring : List Time) : Tap :=
  { tap.withRing ring with
    suspect := false, debounceRef := some now
    deadline := some (now + BitVec.ofNat 64
      (if 4 ≤ ring.length then (4 * (meanEdge ring).getD 0).toNat else 2000000)) }

theorem Tap.taken_eq (tap : Tap) (now : Time) (ring : List Time) :
    Tap.takeRing { tap with debounceRef := some now } now ring = tap.taken now ring := by
  rw [Tap.takeRing, silenceDeadline_eq]
  rfl

section Edge

variable {tap : Tap} {now : Time}

theorem Tap.debounces_iff : tap.debounces now = true ↔ ∃ d, tap.debounceRef = some d ∧ (now - d).toNat < 1000 := by
  unfold Tap.debounces Config.debounce
  cases tap.debounceRef <;> simp

theorem Tap.edge_ignored (h : ∃ d, tap.debounceRef = some d ∧ (now - d).toNat < 1000) :
    tap.edge now = (tap, .ignored) := if_pos (Tap.debounces_iff.2 h)

variable (h : ¬ ∃ d, tap.debounceRef = some d ∧ (now - d).toNat < 1000)

include h

theorem Tap.edge_outlier (ho : Outlier tap.ring (now - BitVec.ofInt 64 tap.offset)) : tap.edge now =
    if tap.suspect then (tap.taken now [now - BitVec.ofInt 64 tap.offset], .restarted)
    else ({ tap with debounceRef := some now, suspect := true }, .discarded) := by
  rw [← Tap.captured_eq] at ho ⊢
  refine (if_neg (mt Tap.debounces_iff.1 h)).trans ((if_pos ((isOutlier_iff _ _).2 ho)).trans ?_)
  rw [Tap.taken_eq]
  rfl

theorem Tap.edge_entered (ho : ¬ Outlier tap.ring (now - BitVec.ofInt 64 tap.offset)) : tap.edge now =
    (tap.taken now (pushEdge tap.ring (now - BitVec.ofInt 64 tap.offset)), .entered) := by
  rw [← Tap.captured_eq] at ho ⊢
  refine (if_neg (mt Tap.debounces_iff.1 h)).trans ((if_neg (mt (isOutlier_iff _ _).1 ho)).trans ?_)
  rw [Tap.taken_eq]
  rfl

end Edge

/-- A change of a tap leaves the tap as it is set, but for follow mode where the lead is lost. -/
theorem State.changeTap_tap (s : State) (k : Fin 4) (v : Tap) (cause : TapCause) :
    (s.changeTap k v cause).tap k = { v with follow := ((s.changeTap k v cause).tap k).follow } := by
  by_cases h : (s.tap k).state = v.state
  · rw [State.changeTap_of_same h, State.setTap_tap_self]
  · have htold : (s.tapTold k v cause).tap k = v :=
      ((State.postAll_frame _ _).stands fun u => u.tap k).trans (State.setTap_tap_self _ _ _)
    rw [State.changeTap_eq h]
    split
    · have htap : ((s.tapTold k v cause).freewheels .tapLost).tap k = ((s.tapTold k v cause).setLeader .nobody).tap k :=
        (State.postAll_frame _ _).stands fun u => u.tap k
      rw [htap, State.setLeader_tap_of_not_tap _ (by simp), htold]
    · rw [htold]

/-- A lock edge of a tap that enters (R89). -/
theorem exec_tapEdge_entered {k : Fin 4} {s : State} {v : Tap} (hrst : s.rstLow = false)
    (h : (s.tap k).edge s.houseTime = (v, .entered)) :
    exec (.tapEdge k) s = .next
      (if ((s.changeTap k v .edge).tap k).follow ∧ ((s.changeTap k v .edge).tap k).state = .steady then
        (s.changeTap k v .edge).lockEdge ((s.changeTap k v .edge).tap k) (v.captured s.houseTime)
      else s.changeTap k v .edge) := by
  change execTapEdge k s = _
  unfold execTapEdge
  rw [if_neg (by rw [hrst]; exact Bool.false_ne_true)]
  dsimp only
  rw [h]
  dsimp only
  split <;> rfl

/-- Settles O33: the debounce, the outlier and the suspect flag decide the disposition. -/
theorem tapEdgeIsDisposedOf : Obligations.TapEdgeIsDisposedOf := by
  intro k s hrst tap now e outlier deadline enters
  have hrun : exec (.tapEdge k) s = execTapEdge k s := rfl
  refine ⟨fun d hd hlt => ?_, fun hd => ?_⟩
  · rw [hrun]
    unfold execTapEdge
    rw [if_neg (by rw [hrst]; exact Bool.false_ne_true), Tap.edge_ignored ⟨d, hd, hlt⟩]
  · have hdeb : ¬ ∃ d, tap.debounceRef = some d ∧ (now - d).toNat < 1000 := fun ⟨d, h, hlt⟩ => by
      have := hd d h
      omega
    refine ⟨fun ho hs => ?_, fun ho hs => ?_, fun ho => ?_⟩
    · have hedge := Tap.edge_outlier hdeb ho
      rw [if_neg (by rw [hs]; exact Bool.false_ne_true)] at hedge
      rw [hrun]
      unfold execTapEdge
      rw [if_neg (by rw [hrst]; exact Bool.false_ne_true), hedge]
    · have hedge := Tap.edge_outlier hdeb ho
      rw [if_pos hs] at hedge
      rw [hrun]
      unfold execTapEdge
      rw [if_neg (by rw [hrst]; exact Bool.false_ne_true), hedge]
      rfl
    · have hedge := Tap.edge_entered hdeb ho
      intro ring t
      have htap := State.changeTap_tap s k (enters ring) .edge
      have hk : (t.tap k).k = tap.k := Eq.trans (congrArg (fun v : Tap => v.k) htap) rfl
      have hcap : (tap.taken now ring).captured now = e := Tap.captured_eq _ _
      rw [exec_tapEdge_entered hrst hedge]
      change Host.Outcome.next (if (t.tap k).follow ∧ (t.tap k).state = .steady then
        t.lockEdge (t.tap k) ((tap.taken now ring).captured now) else t) = _
      rw [hcap, State.lockEdge, hk]
      cases (t.tap k).follow <;> cases (t.tap k).state <;> cases (t.tap k).measuredInterval <;> rfl

end Sys2Proof.Machine

/-! PROOF. The lock loop (section 5.6) and the tap commands (sections 5.4, 5.8). -/

namespace Sys2Proof.Machine

/-! ### The lock loop -/

/-- A quarter of the way from `i` to `m` lies between them (R90). -/
theorem quarter_between (i m : Nat) : (min i m : Int) ≤ (i : Int) + ((m : Int) - i).tdiv 4
    ∧ (i : Int) + ((m : Int) - i).tdiv 4 ≤ (max i m : Int) := by
  obtain h | h := le_total i m
  · rw [Int.tdiv_eq_ediv_of_nonneg (by omega)]
    omega
  · rw [show (m : Int) - i = -((i : Int) - m) by omega, Int.neg_tdiv, Int.tdiv_eq_ediv_of_nonneg (by omega)]
    omega

theorem nearestRecord_mem {t : Time} {q : List PulseRecord} {r : PulseRecord} (h : nearestRecord t q = some r) : r ∈ q := by
  induction q with
  | nil => cases h
  | cons x q ih =>
    rw [nearestRecord] at h
    split at h
    · cases h; exact List.mem_cons_self
    · next b hb =>
      split at h
      · cases h; exact List.mem_cons_self
      · cases h; exact List.mem_cons_of_mem x (ih hb)

/-- The record no later one is nearer than, and every earlier one is farther than, is the nearest (R91). -/
theorem nearestRecord_of_nearest {t : Time} {a b : List PulseRecord} {r : PulseRecord}
    (ha : ∀ x ∈ a, (signedDiff t r.refTime).natAbs < (signedDiff t x.refTime).natAbs)
    (hb : ∀ x ∈ b, (signedDiff t r.refTime).natAbs ≤ (signedDiff t x.refTime).natAbs) :
    nearestRecord t (a ++ r :: b) = some r := by
  induction a with
  | nil =>
    rw [List.nil_append, nearestRecord]
    split
    · rfl
    · next x hx => rw [if_pos (hb x (nearestRecord_mem hx))]
  | cons x a ih =>
    have hrest := ih fun y hy => ha y (List.mem_cons_of_mem x hy)
    have hx := ha x List.mem_cons_self
    rw [List.cons_append, nearestRecord, hrest]
    exact if_neg (by omega)

/-- Settles O34: the tempo by `quarter_between`, the phase by `nearestRecord_of_nearest`. -/
theorem lockEdgeSteersTheEngine : Obligations.LockEdgeSteersTheEngine := by
  refine ⟨fun e m he hm => ?_, fun e q k t => ?_⟩
  · intro i
    obtain ⟨hlo, hhi⟩ := quarter_between e.interval m
    obtain ⟨he, he'⟩ := he
    obtain ⟨hm, hm'⟩ := hm
    change (min e.interval m : Int) ≤ i at hlo
    change i ≤ (max e.interval m : Int) at hhi
    have hclamp : (clampInt (Config.intervalMin : Int) (Config.intervalMax : Int) i).1 = i := by
      unfold clampInt Config.intervalMin Config.intervalMax
      dsimp only
      omega
    refine ⟨by omega, by omega, by omega, ?_⟩
    unfold Engine.lockTempo
    dsimp only
    rw [show (e.interval : Int) + ((m : Int) - (e.interval : Int)).tdiv 4 = i from rfl, hclamp]
  · intro fits err
    have hfilter : ∀ r, qualifies k r = true ↔ fits r := fun r => decide_eq_true_iff
    refine ⟨fun hnone => ?_, fun a b r hq hr ha hb => ?_⟩
    · have hempty : q.filter (qualifies k) = [] := List.filter_eq_nil_iff.2 fun r hr h => hnone r hr ((hfilter r).1 h)
      rw [Engine.lockPhase, hempty]
      rfl
    · intro bound
      have hnatAbs : ∀ x : PulseRecord, ((signedDiff t x.refTime).natAbs : Int) = |err x| := fun x => Int.natCast_natAbs _
      have hnear : nearestRecord t (q.filter (qualifies k)) = some r := by
        rw [hq, List.filter_append, List.filter_cons_of_pos ((hfilter r).2 hr)]
        refine nearestRecord_of_nearest (fun x hx => ?_) fun x hx => ?_
        · obtain ⟨hx, hf⟩ := List.mem_filter.1 hx
          have h := ha x hx ((hfilter x).1 hf)
          rw [← hnatAbs, ← hnatAbs] at h
          omega
        · obtain ⟨hx, hf⟩ := List.mem_filter.1 hx
          have h := hb x hx ((hfilter x).1 hf)
          rw [← hnatAbs, ← hnatAbs] at h
          omega
      rw [Engine.lockPhase, hnear]
      rfl

/-! ### The tap commands -/

theorem readFour_of_lt {b : Byte} (h : 3 < b.toNat) : readFour b = none := dif_neg (by omega)

theorem readFour_of_val {b : Byte} {i : Fin 4} (h : b.toNat = i.val) : readFour b = some i :=
  (readFour_eq_some b i).2 h

theorem readEdgesPerBeat_of_mem {n : Byte} (h : n ∈ ([1, 2, 4, 24] : List Byte)) : readEdgesPerBeat n = some n.toNat := by
  simp only [List.mem_cons, List.not_mem_nil, or_false] at h
  obtain rfl | rfl | rfl | rfl := h <;> rfl

theorem readEdgesPerBeat_of_not_mem {n : Byte} (h : n ∉ ([1, 2, 4, 24] : List Byte)) : readEdgesPerBeat n = none := by
  cases hread : readEdgesPerBeat n with
  | none => rfl
  | some m =>
    refine absurd ?_ h
    unfold readEdgesPerBeat at hread
    have heq : ∀ k : Byte, n.toNat = k.toNat → n = k := fun k => BitVec.eq_of_toNat_eq
    split at hread
    · next e => simp [heq 1 e]
    · next e => simp [heq 2 e]
    · next e => simp [heq 4 e]
    · next e => simp [heq 24 e]
    · cases hread

/-- The offset SET_TAP takes, at most 250 ms either way (R94). -/
theorem takenStatus_offset (o : Int) : takenStatus (clampInt (-(Config.offsetMax : Int)) (Config.offsetMax : Int) o).2 =
    if max (-250000) (min 250000 o) = o then .ok else .clamped := by
  unfold clampInt takenStatus Config.offsetMax
  by_cases h : max (-250000) (min 250000 o) = o
  · rw [if_pos h, if_neg]
    simp
    omega
  · rw [if_neg h, if_pos]
    simp
    omega

/-- What READ_TAP gives of a tap (R96). -/
theorem readTapBody_known {tap : Byte} {k : Fin 4} (hk : tap.toNat = k.val) (s : State) :
    ∃ present : Byte, readTapBody tap s = (s, ⟨.ok,
        [tap] ++ toBytes 1 (s.tap k).state.code ++ toBytes 1 (s.tap k).k
          ++ toBytes 4 (BitVec.ofInt 32 (s.tap k).offset).toNat ++ toBytes 1 (s.tap k).ring.length
          ++ (s.tap k).ring.flatMap (fun e => toBytes 8 e.toNat) ++ [present]
          ++ toBytes 4 (BitVec.ofInt 32 ((meanEdge (s.tap k).ring).getD 0)).toNat
          ++ toBytes 4 ((s.tap k).measuredInterval.getD 0) ++ toBytes 2 ((s.tap k).measuredTempo.getD 0)
          ++ [if (s.tap k).suspect then 1 else 0] ++ [if (s.tap k).follow then 1 else 0]
          ++ toBytes 4 (((s.tap k).deadline.map fun t => (t - s.houseTime).toNat / 1000).getD 0)⟩)
      ∧ (present.getLsbD 0 = true ↔ 2 ≤ (s.tap k).ring.length)
      ∧ present.getLsbD 1 = (s.tap k).measuredInterval.isSome
      ∧ present.getLsbD 2 = (s.tap k).measuredTempo.isSome
      ∧ present.getLsbD 3 = (s.tap k).deadline.isSome := by
  obtain ⟨present, hp, hbits⟩ := presence_spec (bs := [(meanEdge (s.tap k).ring).isSome,
    (s.tap k).measuredInterval.isSome, (s.tap k).measuredTempo.isSome, (s.tap k).deadline.isSome]) (by simp)
  have hmean : optionBytes 4 signedBytes (meanEdge (s.tap k).ring)
      = toBytes 4 (BitVec.ofInt 32 ((meanEdge (s.tap k).ring).getD 0)).toNat := by
    cases meanEdge (s.tap k).ring <;> rfl
  have hint : optionBytes 4 (toBytes 4) (s.tap k).measuredInterval = toBytes 4 ((s.tap k).measuredInterval.getD 0) := by
    cases (s.tap k).measuredInterval <;> rfl
  have htempo : optionBytes 2 (toBytes 2) (s.tap k).measuredTempo = toBytes 2 ((s.tap k).measuredTempo.getD 0) := by
    cases (s.tap k).measuredTempo <;> rfl
  have hleft : optionBytes 4 s.msLeft (s.tap k).deadline
      = toBytes 4 (((s.tap k).deadline.map fun t => (t - s.houseTime).toNat / 1000).getD 0) :=
    optionBytes_getD (fun t : Time => (t - s.houseTime).toNat / 1000) _
  refine ⟨present, ?_, ?_, hbits 1, hbits 2, hbits 3⟩
  · unfold readTapBody
    rw [readFour_of_val hk]
    dsimp only
    rw [hp, hmean, hint, htempo, hleft]
    rfl
  · rw [hbits 0]
    change (meanEdge (s.tap k).ring).isSome = true ↔ _
    unfold meanEdge
    split <;> simp <;> omega

/-- Settles O35: the deadline by `due`, the commands by their bodies. -/
theorem tapIsEmptiedSetAndRead : Obligations.TapIsEmptiedSetAndRead := by
  unfold Obligations.TapIsEmptiedSetAndRead
  intro empty
  refine ⟨fun k s => ⟨fun h => ?_, fun t ht hle => ?_⟩, fun p tap n o s hcan => ?_, fun p tap s hcan => ?_,
    fun p tap s hcan => ?_⟩
  · change execTapSilenceDeadline k s = _
    exact if_neg (by simp [State.due_eq_false h])
  · change execTapSilenceDeadline k s = _
    exact if_pos (State.due_eq_true ht hle)
  · intro u
    have hexec : exec (.setTap p tap n o) s = answers p 0x30 (setTapBody tap n o u).2.status
        (setTapBody tap n o u).2.payload (setTapBody tap n o u).1 := exec_taken rfl hcan
    refine ⟨fun hbad => ?_, fun k hk hn => ?_⟩
    · have hnone : readFour tap = none ∨ readEdgesPerBeat n = none := hbad.imp readFour_of_lt readEdgesPerBeat_of_not_mem
      have hrefused : setTapBody tap n o u = refusal u .range := by
        unfold setTapBody
        split
        · next h1 h2 => simp [h1, h2] at hnone
        · rfl
      rw [hexec, hrefused]
      rfl
    · intro v off st head
      have hv : u.tap k = v := State.heard_tap s p _ k
      set w : Tap := { empty v with k := n.toNat, offset := off, debounceRef := none }
      have hbody : setTapBody tap n o u = (if v.k = n.toNat then
          (u.setTap k { v with offset := off, ring := v.ring.map fun e => e + BitVec.ofInt 64 (v.offset - off) },
            ⟨st, head ++ toBytes 1 v.state.code⟩)
          else (u.changeTap k w .settings,
            ⟨st, head ++ [0]⟩)) := by
        unfold setTapBody
        rw [readFour_of_val hk, readEdgesPerBeat_of_mem hn]
        dsimp only
        rw [hv, takenStatus_offset]
        by_cases h : v.k = n.toNat
        · simp only [if_pos h, State.setTap_tap_self]
          rfl
        · have htap := State.changeTap_tap u k w .settings
          have hstate : ((u.changeTap k w .settings).tap k).state = .silent :=
            Eq.trans (congrArg (fun v : Tap => v.state) htap) rfl
          simp only [if_neg h]
          exact congrArg (fun c : TapState =>
            (u.changeTap k w .settings, (⟨st, head ++ toBytes 1 c.code⟩ : Answer))) hstate
      refine ⟨fun h => ?_, fun h => ?_⟩
      · rw [hexec, hbody, if_pos h]
      · rw [hexec, hbody, if_neg h]
  · intro u
    have hexec : exec (.tapClear p tap) s = answers p 0x31 (tapClearBody tap u).2.status (tapClearBody tap u).2.payload
        (tapClearBody tap u).1 := exec_taken rfl hcan
    refine ⟨fun hbad => ?_, fun k hk => ?_⟩
    · rw [hexec, tapClearBody, readFour_of_lt hbad]
      rfl
    · have hv : u.tap k = s.tap k := State.heard_tap s p _ k
      rw [hexec, tapClearBody, readFour_of_val hk]
      dsimp only
      rw [hv]
      refine ⟨fun h => ?_, fun h => ?_⟩
      · rw [if_pos h]
        rfl
      · rw [if_neg h]
        rfl
  · intro u
    have hexec : exec (.readTap p tap) s = answers p 0x32 (readTapBody tap u).2.status (readTapBody tap u).2.payload
        (readTapBody tap u).1 := exec_taken_exempt rfl hcan rfl
    refine ⟨fun hbad => ?_, fun k hk => ?_⟩
    · rw [hexec, readTapBody, readFour_of_lt hbad]
      rfl
    · intro v
      have hv : u.tap k = v := State.heard_tap s p _ k
      obtain ⟨present, hbody, hbits⟩ := readTapBody_known hk u
      rw [hv] at hbody hbits
      have htime : u.houseTime = s.houseTime := State.heard_houseTime s p _
      rw [htime] at hbody
      exact ⟨present, by rw [hexec, hbody], hbits⟩

end Sys2Proof.Machine

/-! PROOF. The cue pool's commands (sections 6.1, 6.5, 6.7) and the triggers (section 6.2). -/

namespace Sys2Proof.Machine

/-! ### Allocations and own cues -/

theorem State.allocated_eq (s : State) :
    s.allocated = s.allocation .a + s.allocation .b + s.allocation .c + s.allocation .d := by
  simp [State.allocated, Port.all, Nat.add_assoc]

theorem State.cueCount_eq (s : State) (p : Port) : s.cueCount p = s.cues.countP fun c => decide (c.owner = p) :=
  List.countP_eq_length_filter.symm

/-- SET_ALLOCATION's figures after its effect (R100). -/
theorem allocationAnswer_set (u : State) (p : Port) (n : Nat) : allocationAnswer p (u.setAllocation p n) .ok =
    ⟨.ok, byte n ++ byte (u.cueCount p) ++ byte (128 - (u.allocated - u.allocation p + n))⟩ := by
  have hmine : (u.setAllocation p n).allocation p = n := by rw [State.setAllocation_allocation, if_pos rfl]
  rw [allocationAnswer, State.unallocated, State.allocated_setAllocation, hmine]
  rfl

/-- A cue the port owns, of an id that no other cue has, is the one cancelled (R114). -/
theorem find_named {a b : List Cue} {c : Cue} {P : Cue → Bool} (hc : P c = true)
    (h : ∀ d ∈ a, P d = false) : (a ++ c :: b).find? P = some c := by
  rw [List.find?_append, List.find?_eq_none.2 fun d hd => by simp [h d hd]]
  simp [hc]

/-- Settles O36, command by command. -/
theorem allocationAndOwnCues : Obligations.AllocationAndOwnCues := by
  refine ⟨fun p n s hcan => ?_, fun p id tag s hcan => ?_, fun p first s hcan => ?_⟩
  · intro u held sum others report
    have hexec : exec (.setAllocation p n) s = answers p 0x38 (setAllocationBody p n u).2.status
        (setAllocationBody p n u).2.payload (setAllocationBody p n u).1 := exec_taken rfl hcan
    have hheld : u.cueCount p = held := (State.heard_cueCount s p _ p).trans (State.cueCount_eq s p)
    have hmine : u.allocation p = s.allocation p := State.heard_allocation s p _ p
    have hsum : u.allocated = sum :=
      (State.allocated_congr (State.heard_allocations s p _)).trans (State.allocated_eq s)
    have hreport : ∀ st, allocationAnswer p u st = ⟨st, report (s.allocation p) (128 - sum)⟩ := fun st => by
      rw [allocationAnswer, State.unallocated, hheld, hmine, hsum]
      rfl
    have hset := allocationAnswer_set u p n.toNat
    rw [hheld, hsum, hmine] at hset
    have hbody : setAllocationBody p n u = if n.toNat < held then (u, allocationAnswer p u .inUse)
        else if 128 < others + n.toNat then (u, allocationAnswer p u .noRoom)
        else (u.setAllocation p n.toNat, allocationAnswer p (u.setAllocation p n.toNat) .ok) := by
      unfold setAllocationBody
      rw [hheld, hsum, hmine]
      rfl
    refine ⟨fun h => ?_, fun h h' => ?_, fun h h' => ?_⟩
    · rw [hexec, hbody, if_pos h, hreport]
    · rw [hexec, hbody, if_neg (by omega), if_pos h', hreport]
    · rw [hexec, hbody, if_neg (by omega), if_neg (by omega), hset]
      rfl
  · intro u named
    have hexec : exec (.cancelCue p id tag) s = answers p 0x3A (cancelCueBody p id tag u).2.status
        (cancelCueBody p id tag u).2.payload (cancelCueBody p id tag u).1 := exec_taken rfl hcan
    have hcues : u.cues = s.cues := State.heard_cues s p _
    refine ⟨fun h => ?_, fun h hnone => ?_, fun a b c h hq hc hne => ?_⟩
    · rw [hexec, cancelCueBody, if_neg (by omega)]
      rfl
    · have hfind : u.cues.find? (fun c => decide (c.id = id.toNat ∧ c.owner = p ∧ c.tag = tag)) = none := by
        rw [hcues]
        exact List.find?_eq_none.2 fun c hc h => hnone c hc (of_decide_eq_true h)
      rw [hexec, cancelCueBody, if_pos h, hfind]
      rfl
    · have hfind : u.cues.find? (fun c => decide (c.id = id.toNat ∧ c.owner = p ∧ c.tag = tag)) = some c := by
        rw [hcues, hq]
        refine find_named (decide_eq_true hc) fun d hd => decide_eq_false fun h => ?_
        exact hne d (List.mem_append_left b hd) (h.1.trans hc.1.symm)
      have hleft : u.cues.filter (fun d => decide (d.id ≠ id.toNat)) = a ++ b := by
        have hstay : ∀ d ∈ a ++ b, decide (d.id ≠ id.toNat) = true := fun d hd =>
          decide_eq_true fun e => hne d hd (e.trans hc.1.symm)
        rw [hcues, hq, List.filter_append, List.filter_cons_of_neg (by simpa using hc.1), ← List.filter_append]
        exact List.filter_eq_self.2 hstay
      rw [hexec, cancelCueBody, if_pos h, hfind]
      dsimp only
      rw [hleft]
      simp only [positionBytes, byte, List.append_assoc]
  · intro u own page
    have hexec : exec (.readCues p first) s = answers p 0x3B (readCuesBody p first u).2.status
        (readCuesBody p first u).2.payload (readCuesBody p first u).1 := exec_taken rfl hcan
    have hcues : u.cues = s.cues := State.heard_cues s p _
    have hmine : u.allocation p = s.allocation p := State.heard_allocation s p _ p
    rw [hexec, readCuesBody, hcues, hmine]
    by_cases h : first.toNat ≤ 127
    · rw [if_pos h, if_pos h]
      rfl
    · rw [if_neg h, if_neg h]
      rfl

/-! ### Triggers -/

/-- The smallest bar at or above `b` that begins a phrase (R102). -/
theorem phraseBar_spec {k b : Nat} (hk : 0 < k) (hb : 1 ≤ b) :
    b ≤ phraseBar k b ∧ k ∣ phraseBar k b - 1 ∧ ∀ c, b ≤ c → k ∣ c - 1 → phraseBar k b ≤ c := by
  have hlt := Nat.lt_div_mul_add (a := b - 1 + (k - 1)) hk
  unfold phraseBar
  refine ⟨by omega, by simp, fun c hc hd => ?_⟩
  obtain ⟨j, hj⟩ := hd
  have hle : (b - 1 + (k - 1)) / k ≤ j := by
    have : (b - 1 + (k - 1)) / k < j + 1 := by
      rw [Nat.div_lt_iff_lt_mul hk, Nat.add_one_mul, Nat.mul_comm j]
      omega
    omega
  have := Nat.mul_le_mul_right k hle
  rw [Nat.mul_comm j k] at this
  omega

/-- NEXT_BAR: this place at a bar start, the next bar elsewhere, and nothing beyond bar 65535 (R102). -/
theorem State.resolve_nextBar {s : State} {m : Nat} (hx : s.gen.position.Legal m) : s.resolve .nextBar =
    if s.gen.position.beat = 1 ∧ s.gen.position.pulse = 0 then some s.gen.position
    else if s.gen.position.bar < 65535 then some ⟨s.gen.position.bar + 1, 1, 0⟩ else none := by
  obtain ⟨hlo, hhi, -⟩ := hx
  rw [State.resolve, State.nextBarStart_eq]
  by_cases h : s.gen.position.beat = 1 ∧ s.gen.position.pulse = 0
  · simp [h, Position.before_irrefl]
  · rw [if_neg h, if_neg h]
    by_cases hb : s.gen.position.bar < 65535
    · rw [if_pos hb, if_pos hb, if_neg (by simp [Position.before])]
    · rw [if_neg hb, if_neg hb, if_pos]
      rw [Position.before_iff]
      dsimp only
      omega

/-- NEXT_BEAT off a beat start: the next beat of the bar, or the next bar (R102). -/
theorem State.resolve_nextBeat {s : State} (h : s.gen.position.pulse ≠ 0) : s.resolve .nextBeat =
    if s.gen.position.beat < s.engine.meter then some ⟨s.gen.position.bar, s.gen.position.beat + 1, 0⟩
    else s.resolve .nextBar := by
  rw [State.resolve, State.nextBeatStart_eq, if_neg h]
  by_cases hb : s.gen.position.beat < s.engine.meter
  · rw [if_pos hb, if_pos hb, if_neg (by simp [Position.before])]
  · rw [if_neg hb, if_neg hb]
    rfl

/-- Settles O37, trigger by trigger. -/
theorem triggersResolveForward : Obligations.TriggersResolveForward := by
  intro s m hx hmeter x atBar
  have hbar := State.resolve_nextBar hx
  have hhere : x.pulse = 0 → s.resolve .nextBeat = some x := fun h => by
    rw [State.resolve, State.nextBeatStart_eq, if_pos h, Position.before_irrefl]
    rfl
  have hmeter' : x.pulse ≠ 0 → s.engine.meter = m := fun h => hmeter (by
    simp only [Position.barStart, Bool.and_eq_false_iff, decide_eq_false_iff_not]
    exact .inr h)
  refine ⟨fun p => rfl, fun h => ⟨?_, hhere h.2⟩, fun h => ?_, hhere, fun h hb => ?_, fun h hb => ?_, fun k hk => ?_⟩
  · rw [hbar, if_pos h]
  · rw [hbar, if_neg h]
  · rw [State.resolve_nextBeat h, hmeter' h, if_pos hb]
  · rw [State.resolve_nextBeat h, hmeter' h, if_neg (Nat.not_lt.2 (Nat.le_of_eq hb.symm)), hbar, if_neg fun h' => h h'.2]
  · intro late
    have hk0 : 0 < k := by
      simp only [List.mem_cons, List.not_mem_nil, or_false] at hk
      omega
    obtain ⟨hlo, hhi, -⟩ := hx
    set b := if x.barStart then x.bar else x.bar + 1 with hb
    have hlate : ∀ c, late c ↔ c < b := fun c => by
      change (c < x.bar ∨ (c = x.bar ∧ ¬ (x.beat = 1 ∧ x.pulse = 0))) ↔ c < b
      rw [hb]
      by_cases h : x.barStart = true
      · rw [if_pos h]
        have := (Position.barStart_iff x).1 h
        tauto
      · rw [if_neg h]
        have := mt (Position.barStart_iff x).2 h
        omega
    have hb1 : 1 ≤ b := by
      rw [hb]
      split <;> omega
    obtain ⟨hge, hdvd, hleast⟩ := phraseBar_spec hk0 hb1
    have hresolve : s.resolve (.nextPhrase k) = if phraseBar k b ≤ 65535 then some ⟨phraseBar k b, 1, 0⟩ else none := rfl
    refine ⟨fun y hy => ?_, fun hnone c hc hle hd => ?_⟩
    · rw [hresolve] at hy
      split at hy
      · next hle =>
        cases hy
        refine ⟨rfl, rfl, hdvd, by dsimp only; omega, hle, by rw [hlate]; dsimp only; omega, fun c _ hd hnot => ?_⟩
        rw [hlate] at hnot
        exact hleast c (by omega) hd
      · cases hy
    · rw [hresolve] at hnone
      rw [hlate]
      by_contra hnot
      have := hleast c (by omega) hd
      rw [if_pos (by omega)] at hnone
      cases hnone

end Sys2Proof.Machine

/-! PROOF. The firing of the due cues (sections 3.2, 6.4), and the lane sets that cues and replies carry. -/

namespace Sys2Proof.Machine

/-! ### Sets of lanes and players as bits -/

/-- A set built bit by bit has the bits of the entries that belong to it. -/
theorem foldl_bits {w n : Nat} (P : Fin n → Prop) [DecidablePred P] (l : List (Fin n)) (m : BitVec w) (k : Nat)
    (hk : k < w) : (l.foldl (fun m i => if P i then m ||| BitVec.twoPow w i.val else m) m).getLsbD k =
      (m.getLsbD k || l.any fun i => decide (P i) && decide (i.val = k)) := by
  induction l generalizing m with
  | nil => simp
  | cons i l ih =>
    rw [List.foldl_cons, ih, List.any_cons, ← Bool.or_assoc]
    congr 1
    by_cases hp : P i
    · simp [hp, hk, eq_comm]
    · simp [hp]

/-- Every entry listed, a set built bit by bit from nothing has exactly the entries that belong to it. -/
theorem foldl_bits_all {w n : Nat} (P : Fin n → Prop) [DecidablePred P] {l : List (Fin n)} (hl : ∀ i, i ∈ l) (k : Fin n)
    (hk : k.val < w) : (l.foldl (fun m i => if P i then m ||| BitVec.twoPow w i.val else m) 0).getLsbD k.val =
      decide (P k) := by
  rw [foldl_bits P l 0 k.val hk, Bool.eq_iff_iff]
  simp only [BitVec.ofNat_eq_ofNat, BitVec.getLsbD_zero, Bool.false_or, List.any_eq_true, Bool.and_eq_true,
    decide_eq_true_eq]
  exact ⟨fun ⟨i, _, hp, hi⟩ => Fin.ext hi ▸ hp, fun hp => ⟨k, hl k, hp, rfl⟩⟩

theorem State.heldLanes_getLsbD (s : State) (p : Port) (l : Fin 16) :
    (s.heldLanes p).getLsbD l.val = decide (s.laneHolder l = some p) :=
  foldl_bits_all _ mem_lanesAll l l.isLt

theorem State.heldPlayers_getLsbD (s : State) (p : Port) (j : Fin 4) :
    (s.heldPlayers p).getLsbD j.val = decide (s.playerHolder j = some p) :=
  foldl_bits_all _ mem_fourAll j (by omega)

theorem State.mutedLanes_getLsbD (s : State) (p : Port) (l : Fin 16) :
    (s.mutedLanes p).getLsbD l.val = decide (s.laneHolder l = some p ∧ (s.lane l).mute = .muted) :=
  foldl_bits_all _ mem_lanesAll l l.isLt

/-- A lane set with no lane in it is empty. -/
theorem lanes_eq_zero_iff {b : BitVec 16} {on : Fin 16 → Bool} (h : ∀ l : Fin 16, b.getLsbD l.val = on l) :
    b = 0 ↔ ∀ l, on l = false := by
  constructor
  · rintro rfl l
    rw [← h l]
    simp
  · intro hoff
    refine BitVec.eq_of_getLsbD_eq fun i hi => ?_
    rw [h ⟨i, hi⟩, hoff]
    simp

/-! ### One cue -/

/-- A firing that has done nothing yet. -/
def Firing.fresh (s : State) : Firing := ⟨s, Vector.replicate 16 none, [], false⟩

theorem State.fireCues_eq (s : State) :
    s.fireCues = s.dueCues.foldl (fun f c => (f.remove c).act c) (Firing.fresh s) := rfl

theorem Firing.muteLanes_eq (s : State) (c : Cue) (lanes : BitVec 16) (m : Mute) :
    (Firing.fresh s).muteLanes c lanes m = if lanes &&& s.heldLanes c.owner = 0 then (Firing.fresh s).drop c .notHeld
    else { (Firing.fresh s).fired c (decide (lanes &&& s.heldLanes c.owner ≠ lanes)) (lanes &&& s.heldLanes c.owner) with
      changes := Vector.ofFn fun l =>
        if (lanes &&& s.heldLanes c.owner).getLsbD l.val then some m else (Firing.fresh s).changes[l] } := rfl

/-- A MUTE or UNMUTE cue acts on the lanes its owner still holds, or is dropped NOT_HELD (R109, R110). -/
theorem Firing.muteLanes_fresh (s : State) (c : Cue) (lanes : BitVec 16) (m : Mute) :
    let on : Fin 16 → Bool := fun l => lanes.getLsbD l && decide (s.laneHolder l = some c.owner)
    let f := (Firing.fresh s).muteLanes c lanes m
    ((∀ l, on l = false) → f = (Firing.fresh s).drop c .notHeld)
      ∧ ((∃ l, on l = true) → f.state = s ∧ f.stop = false
        ∧ (∀ l : Fin 16, f.changes[l] = if on l then some m else none)
        ∧ ∃ applied : BitVec 16, (∀ l : Fin 16, applied.getLsbD l = on l)
          ∧ f.given = [(c.owner, .cueFired c.id c.tag c.action.kind (decide (applied ≠ lanes)) applied)]) := by
  intro on f
  have hon : ∀ l : Fin 16, (lanes &&& s.heldLanes c.owner).getLsbD l.val = on l := fun l => by
    rw [BitVec.getLsbD_and, State.heldLanes_getLsbD]
  have hf : f = _ := Firing.muteLanes_eq s c lanes m
  refine ⟨fun h => by rw [hf, if_pos ((lanes_eq_zero_iff hon).2 h)], fun ⟨l, hl⟩ => ?_⟩
  have hne : ¬ lanes &&& s.heldLanes c.owner = 0 := fun h => by
    rw [(lanes_eq_zero_iff hon).1 h l] at hl
    cases hl
  rw [if_neg hne] at hf
  rw [hf]
  refine ⟨rfl, rfl, fun l => ?_, _, hon, rfl⟩
  simp only [Fin.getElem_fin, Vector.getElem_ofFn]
  rw [← hon l]
  simp [Firing.fresh]

section Act

variable (s : State) {c : Cue}

theorem Firing.act_of_mute {f : Firing} {lanes : BitVec 16} (h : c.action = .mute lanes) :
    f.act c = f.muteLanes c lanes .muted := by
  rw [Firing.act, h]

theorem Firing.act_of_unmute {f : Firing} {lanes : BitVec 16} (h : c.action = .unmute lanes) :
    f.act c = f.muteLanes c lanes .unmuted := by
  rw [Firing.act, h]

theorem Firing.act_of_loadRow {j : Fin 4} {row tap : Nat} (h : c.action = .loadRow j row tap) :
    (Firing.fresh s).act c = if s.playerHolder j = some c.owner then
      { (Firing.fresh s).fired c false 0 with
        state := s.setPlayer j ((s.player j).loadRow s.patternMem row tap true) }
    else (Firing.fresh s).drop c .notHeld := by
  rw [Firing.act, h]
  rfl

theorem Firing.act_of_halfLoad {j : Fin 4} {row tap : Nat} (h : c.action = .halfLoad j row tap) :
    (Firing.fresh s).act c = if s.playerHolder j ≠ some c.owner then (Firing.fresh s).drop c .notHeld
    else if (s.player j).primed = false then (Firing.fresh s).drop c .notPrimed
    else if (s.player j).rowJump ≠ none then (Firing.fresh s).drop c .busy
    else { (Firing.fresh s).fired c false 0 with
      state := s.setPlayer j ((s.player j).loadHalf s.patternMem row tap) } := by
  rw [Firing.act, h]
  change (if s.playerHolder j = some c.owner then
    if (s.player j).primed then
      if (s.player j).rowJump.isSome then (Firing.fresh s).drop c .busy
      else { (Firing.fresh s).fired c false 0 with
        state := s.setPlayer j ((s.player j).loadHalf s.patternMem row tap) }
    else (Firing.fresh s).drop c .notPrimed
    else (Firing.fresh s).drop c .notHeld) = _
  by_cases hp : s.playerHolder j = some c.owner
  · cases hprimed : (s.player j).primed with
    | false => simp [hp]
    | true => cases hj : (s.player j).rowJump <;> simp [hp]
  · simp [hp]

theorem Firing.act_of_tempo {v g : Nat} (h : c.action = .tempo v g) :
    (Firing.fresh s).act c = if s.arbiter.leader = .port c.owner then
      { (Firing.fresh s).fired c false 0 with state := { s with engine := s.engine.startTempo v g } }
    else (Firing.fresh s).drop c .notLeader := by
  rw [Firing.act, h]
  by_cases hl : s.arbiter.leader = .port c.owner
  · exact (if_pos (State.leads_eq_true hl)).trans (if_pos hl).symm
  · exact (if_neg (State.leads_eq_false hl)).trans (if_neg hl).symm

theorem Firing.act_of_meter {m : Nat} (h : c.action = .meter m) :
    (Firing.fresh s).act c = if s.arbiter.leader = .port c.owner then
      { (Firing.fresh s).fired c false 0 with
        state := { s with engine := { s.engine with pendingMeter := some m } } }
    else (Firing.fresh s).drop c .notLeader := by
  rw [Firing.act, h]
  by_cases hl : s.arbiter.leader = .port c.owner
  · exact (if_pos (State.leads_eq_true hl)).trans (if_pos hl).symm
  · exact (if_neg (State.leads_eq_false hl)).trans (if_neg hl).symm

theorem Firing.act_of_stop (h : c.action = .stop) :
    (Firing.fresh s).act c = if s.arbiter.leader = .port c.owner then
      { (Firing.fresh s).fired c false 0 with stop := true }
    else (Firing.fresh s).drop c .notLeader := by
  rw [Firing.act, h]
  by_cases hl : s.arbiter.leader = .port c.owner
  · exact (if_pos (State.leads_eq_true hl)).trans (if_pos hl).symm
  · exact (if_neg (State.leads_eq_false hl)).trans (if_neg hl).symm

theorem Firing.act_of_mark {f : Firing} (h : c.action = .mark) : f.act c = f.fired c false 0 := by
  rw [Firing.act, h]

end Act

/-- Of a pool whose first cue alone is due, that cue fires, on the part without it (R108). -/
theorem State.fireCues_of_one {s : State} {c : Cue} {rest : List Cue} (hq : s.cues = c :: rest)
    (hc : s.gen.position.before c.fire = false)
    (hrest : ∀ d ∈ rest, s.gen.position.before d.fire = true ∧ d.id ≠ c.id) :
    s.fireCues = (Firing.fresh { s with cues := rest }).act c := by
  have hdue : s.dueCues = [c] := by
    rw [State.dueCues, hq, List.filter_cons_of_pos (by simp [hc]),
      List.filter_eq_nil_iff.2 fun d hd => by simp [(hrest d hd).1]]
  have hleft : s.cues.filter (fun d => decide (d.id ≠ c.id)) = rest := by
    rw [hq, List.filter_cons_of_neg (by simp), List.filter_eq_self]
    exact fun d hd => decide_eq_true (hrest d hd).2
  have hremove : (Firing.fresh s).remove c = Firing.fresh { s with cues := rest } := by
    rw [← hleft]
    rfl
  rw [State.fireCues_eq, hdue, List.foldl_cons, List.foldl_nil, hremove]

/-! ### Several cues -/

/-- A firing after another: the state of the second, the later lane changes over the earlier, the notices in turn. -/
def Firing.join (f g : Firing) : Firing :=
  ⟨g.state, Vector.ofFn fun l => (g.changes[l]).or f.changes[l], f.given ++ g.given, f.stop || g.stop⟩

theorem Firing.act_eq_join (f : Firing) (c : Cue) : f.act c = f.join ((Firing.fresh f.state).act c) := f.act_join c

theorem Firing.join_fresh (f : Firing) : f.join (Firing.fresh f.state) = f := by
  obtain ⟨s, ch, g, st⟩ := f
  have hch : (Vector.ofFn fun l : Fin 16 => ((Firing.fresh s).changes[l]).or ch[l]) = ch := by
    ext l hl
    simp [Firing.fresh]
  unfold Firing.join
  dsimp only
  rw [hch]
  simp [Firing.fresh]

theorem Firing.join_assoc (f g h : Firing) : (f.join g).join h = f.join (g.join h) := by
  unfold Firing.join
  simp [Option.or_assoc, Bool.or_assoc]

/-- The firing of cues adds to a firing what it comes to on that firing's state (R108). -/
theorem Firing.foldl_join (cs : List Cue) (f : Firing) : cs.foldl (fun f c => (f.remove c).act c) f
    = f.join (cs.foldl (fun f c => (f.remove c).act c) (Firing.fresh f.state)) := by
  induction cs generalizing f with
  | nil => exact f.join_fresh.symm
  | cons c cs ih =>
    have hfirst : (f.remove c).act c = f.join (((Firing.fresh f.state).remove c).act c) := Firing.act_eq_join _ c
    rw [List.foldl_cons, List.foldl_cons, hfirst, ih, Firing.join_assoc]
    congr 1
    exact (ih _).symm

/-- A firing with another pool. -/
def Firing.withCues (f : Firing) (cs : List Cue) : Firing := { f with state := { f.state with cues := cs } }

theorem Firing.withCues_ite (P : Prop) [Decidable P] (f g : Firing) (cs : List Cue) :
    (if P then f else g).withCues cs = if P then f.withCues cs else g.withCues cs := by
  split <;> rfl

/-- What a cue does, it does whatever else waits in the pool (R109, R110). -/
theorem Firing.act_withCues (s : State) (cs : List Cue) (c : Cue) :
    (Firing.fresh { s with cues := cs }).act c = ((Firing.fresh s).act c).withCues cs := by
  cases h : c.action with
  | mute lanes =>
    rw [Firing.act_of_mute h, Firing.act_of_mute h, Firing.muteLanes_eq, Firing.muteLanes_eq, Firing.withCues_ite]
    rfl
  | unmute lanes =>
    rw [Firing.act_of_unmute h, Firing.act_of_unmute h, Firing.muteLanes_eq, Firing.muteLanes_eq, Firing.withCues_ite]
    rfl
  | loadRow j row tap =>
    rw [Firing.act_of_loadRow _ h, Firing.act_of_loadRow _ h, Firing.withCues_ite]
    rfl
  | halfLoad j row tap =>
    rw [Firing.act_of_halfLoad _ h, Firing.act_of_halfLoad _ h, Firing.withCues_ite, Firing.withCues_ite,
      Firing.withCues_ite]
    rfl
  | tempo v g =>
    rw [Firing.act_of_tempo _ h, Firing.act_of_tempo _ h, Firing.withCues_ite]
    rfl
  | meter m =>
    rw [Firing.act_of_meter _ h, Firing.act_of_meter _ h, Firing.withCues_ite]
    rfl
  | stop =>
    rw [Firing.act_of_stop _ h, Firing.act_of_stop _ h, Firing.withCues_ite]
    rfl
  | mark =>
    rw [Firing.act_of_mark h, Firing.act_of_mark h]
    rfl

/-! ### What any firing leaves -/

theorem Firing.act_given_length (f : Firing) (c : Cue) : (f.act c).given.length = f.given.length + 1 := by
  have hite : ∀ (P : Prop) [Decidable P] (g h : Firing), g.given.length = 1 → h.given.length = 1 →
      (if P then g else h).given.length = 1 := by
    intro P _ g h hg hh
    split <;> assumption
  have hone : ((Firing.fresh f.state).act c).given.length = 1 := by
    cases h : c.action with
    | mute lanes => rw [Firing.act_of_mute h, Firing.muteLanes_eq]; exact hite _ _ _ rfl rfl
    | unmute lanes => rw [Firing.act_of_unmute h, Firing.muteLanes_eq]; exact hite _ _ _ rfl rfl
    | loadRow j row tap => rw [Firing.act_of_loadRow _ h]; exact hite _ _ _ rfl rfl
    | halfLoad j row tap =>
      rw [Firing.act_of_halfLoad _ h]
      exact hite _ _ _ rfl (hite _ _ _ rfl (hite _ _ _ rfl rfl))
    | tempo v g => rw [Firing.act_of_tempo _ h]; exact hite _ _ _ rfl rfl
    | meter m => rw [Firing.act_of_meter _ h]; exact hite _ _ _ rfl rfl
    | stop => rw [Firing.act_of_stop _ h]; exact hite _ _ _ rfl rfl
    | mark => rw [Firing.act_of_mark h]; rfl
  rw [Firing.act_eq_join, Firing.join, List.length_append, hone]

/-- Every due cue gives one notice (R112, R113). -/
theorem State.fireCues_given_length (s : State) : s.fireCues.given.length = s.dueCues.length := by
  have hfold : ∀ (cs : List Cue) (f : Firing),
      (cs.foldl (fun f c => (f.remove c).act c) f).given.length = f.given.length + cs.length := by
    intro cs
    induction cs with
    | nil => exact fun _ => rfl
    | cons c cs ih =>
      intro f
      have hfirst : ((f.remove c).act c).given.length = f.given.length + 1 := Firing.act_given_length _ c
      rw [List.foldl_cons, ih, hfirst, List.length_cons]
      omega
  rw [State.fireCues_eq, hfold]
  exact Nat.zero_add _

/-- A player that no port holds stands through a cue's firing (R109). -/
theorem Firing.act_player {s : State} {j : Fin 4} (hj : s.playerHolder j = none) (c : Cue) :
    ((Firing.fresh s).act c).state.player j = s.player j := by
  have hset : ∀ (i : Fin 4) (pl : Player), s.playerHolder i = some c.owner → (s.setPlayer i pl).player j = s.player j := by
    intro i pl hi
    refine State.setPlayer_player_other s i pl j fun e => ?_
    rw [← e, hj] at hi
    cases hi
  cases h : c.action with
  | mute lanes =>
    rw [Firing.act_of_mute h, Firing.muteLanes_eq]
    split <;> rfl
  | unmute lanes =>
    rw [Firing.act_of_unmute h, Firing.muteLanes_eq]
    split <;> rfl
  | loadRow i row tap =>
    rw [Firing.act_of_loadRow _ h]
    split
    · next hi => exact hset i _ hi
    · rfl
  | halfLoad i row tap =>
    rw [Firing.act_of_halfLoad _ h]
    split
    · rfl
    · next hi =>
      split
      · rfl
      · split
        · rfl
        · exact hset i _ (not_not.1 hi)
  | tempo v g =>
    rw [Firing.act_of_tempo _ h]
    split <;> rfl
  | meter m =>
    rw [Firing.act_of_meter _ h]
    split <;> rfl
  | stop =>
    rw [Firing.act_of_stop _ h]
    split <;> rfl
  | mark =>
    rw [Firing.act_of_mark h]
    rfl

theorem State.fireCues_player {s : State} {j : Fin 4} (hj : s.playerHolder j = none) :
    s.fireCues.state.player j = s.player j := by
  obtain ⟨-, h⟩ := State.fireCues_keeps (P := fun u => u.playerClaims = s.playerClaims ∧ u.player j = s.player j)
    ⟨rfl, rfl⟩ fun f c _ ⟨hc, hp⟩ => by
      have hframe := f.act_remove_frame c
      have hclaims : ((f.remove c).act c).state.playerClaims = f.state.playerClaims := by
        rw [hframe]
      have hnone : (f.remove c).state.playerHolder j = none :=
        Eq.trans (congrArg (fun v : Vector (Option Port) 4 => v[j]) hc) hj
      refine ⟨hclaims.trans hc, ?_⟩
      rw [Firing.act_eq_join]
      exact (Firing.act_player hnone c).trans hp
  exact h

theorem State.fireCues_meter (s : State) : s.fireCues.state.engine.meter = s.engine.meter := by
  refine State.fireCues_keeps (P := fun u => u.engine.meter = s.engine.meter) rfl fun f c _ hf => ?_
  have hf : (f.remove c).state.engine.meter = s.engine.meter := hf
  obtain e | ⟨i, row, tap, -, e⟩ | ⟨i, row, tap, -, -, -, e⟩ | ⟨v, g, -, e⟩ | ⟨m, -, e⟩ :=
    (f.remove c).act_cases c <;> rw [e]
  · exact hf
  · exact hf
  · exact hf
  · simp only [Engine.startTempo]
    split <;> exact hf
  · exact hf

/-- Of a pool of distinct ids, the cues that are not due stand (R108). -/
theorem State.fireCues_rest {s : State} (h : s.cues.Pairwise fun c d => c.id ≠ d.id) :
    s.fireCues.state.cues = s.cues.filter fun c => s.gen.position.before c.fire := by
  have hnodup : (s.cues.map Cue.id).Nodup := List.pairwise_map.2 h
  have hsame : ∀ c ∈ s.cues, ∀ d ∈ s.cues, c.id = d.id → c = d := fun c hc d hd =>
    List.inj_on_of_nodup_map hnodup hc hd
  rw [State.fireCues_cues]
  refine List.filter_congr fun d hd => ?_
  rw [Bool.eq_iff_iff, List.all_eq_true]
  constructor
  · intro hall
    by_contra hb
    have hdue : d ∈ s.dueCues := List.mem_filter.2 ⟨hd, by simpa using hb⟩
    exact of_decide_eq_true (hall d hdue) rfl
  · intro hb c hc
    obtain ⟨hc, hdue⟩ := List.mem_filter.1 hc
    refine decide_eq_true fun e => ?_
    rw [hsame d hd c hc e] at hb
    simp [hb] at hdue

end Sys2Proof.Machine

/-! PROOF. The cues that fire at a step, one and several (sections 3.2, 6.1, 6.4). -/

namespace Sys2Proof.Machine

theorem State.dueCues_cons {s : State} {c : Cue} {rest : List Cue} (hq : s.cues = c :: rest)
    (hc : s.gen.position.before c.fire = false) :
    s.dueCues = c :: rest.filter fun d => !s.gen.position.before d.fire := by
  rw [State.dueCues, hq, List.filter_cons_of_pos (by simp [hc])]

/-- Settles O39: one cue by its action, several by `Firing.foldl_join`. -/
theorem dueCuesFireOrAreDropped : Obligations.DueCuesFireOrAreDropped := by
  refine ⟨fun s c rest hq hc hrest => ?_, fun s h => ?_, fun s c rest hq hc hne => ?_, fun s hids => ?_⟩
  · intro f o left none16 dropped fired mutes
    have hf : f = (Firing.fresh left).act c := State.fireCues_of_one hq hc hrest
    refine ⟨fun lanes h => ?_, fun lanes h => ?_, fun j row tap h => ?_, fun j row tap h => ?_, fun v g h => ?_,
      fun m h => ?_, fun h => ?_, fun h => ?_⟩
    · have hmute := Firing.muteLanes_fresh left c lanes .muted
      rw [← Firing.act_of_mute h, ← hf] at hmute
      exact hmute
    · have hmute := Firing.muteLanes_fresh left c lanes .unmuted
      rw [← Firing.act_of_unmute h, ← hf] at hmute
      exact hmute
    · rw [hf, Firing.act_of_loadRow left h]
      rfl
    · rw [hf, Firing.act_of_halfLoad left h]
      rfl
    · rw [hf, Firing.act_of_tempo left h]
      rfl
    · rw [hf, Firing.act_of_meter left h]
      rfl
    · rw [hf, Firing.act_of_stop left h]
      rfl
    · rw [hf, Firing.act_of_mark h]
      rfl
  · have hnone : s.dueCues = [] := List.filter_eq_nil_iff.2 fun c hc => by simp [h c hc]
    rw [State.fireCues_eq, hnone]
    rfl
  · intro first others f
    have hfirst : first = (Firing.fresh { s with cues := [] }).act c :=
      State.fireCues_of_one (s := { s with cues := [c] }) rfl hc fun d hd => absurd hd List.not_mem_nil
    have hleft : s.cues.filter (fun d => decide (d.id ≠ c.id)) = rest := by
      rw [hq, List.filter_cons_of_neg (by simp), List.filter_eq_self]
      exact fun d hd => decide_eq_true (hne d hd)
    have hact : ((Firing.fresh s).remove c).act c = first.withCues rest := by
      have hremove : (Firing.fresh s).remove c = Firing.fresh { s with cues := rest } := by
        rw [← hleft]
        rfl
      rw [hremove, hfirst, ← Firing.act_withCues]
    have hgen : first.state.gen = s.gen := State.fireCues_gen { s with cues := [c] }
    have hf : f = (first.withCues rest).join others := by
      have hdue : others = (rest.filter fun d => !s.gen.position.before d.fire).foldl
          (fun f c => (f.remove c).act c) (Firing.fresh (first.withCues rest).state) := by
        rw [← hgen]
        rfl
      rw [hdue, ← Firing.foldl_join, ← hact]
      change s.fireCues = _
      rw [State.fireCues_eq, State.dueCues_cons hq hc, List.foldl_cons]
    rw [hf]
    refine ⟨rfl, rfl, rfl, fun l => ?_⟩
    simp only [Firing.join, Fin.getElem_fin, Vector.getElem_ofFn]
    cases others.changes[l.val] <;> rfl
  · refine ⟨State.fireCues_rest hids, ?_, s.fireCues_frame, ⟨s.fireCues_slip, s.fireCues_meter⟩,
      fun j hj => State.fireCues_player hj⟩
    rw [State.fireCues_given_length, State.dueCues, List.countP_eq_length_filter]

end Sys2Proof.Machine

/-! PROOF. SCHEDULE_CUE (sections 6.1 to 6.3): its fields, the cue's right, its slot and its place in the pool. -/

namespace Sys2Proof.Machine

/-! ### Fields -/

theorem byte_eq_iff {b : Byte} {n : Nat} (hn : n < 256) : b = BitVec.ofNat 8 n ↔ b.toNat = n := by
  rw [← BitVec.toNat_inj, BitVec.toNat_ofNat, Nat.mod_eq_of_lt hn]

theorem readPhrase_eq_some {b : Byte} {k : Nat} :
    readPhrase b = some k ↔ b ∈ ([2, 4, 8, 16] : List Byte) ∧ k = b.toNat := by
  have hmem : b ∈ ([2, 4, 8, 16] : List Byte) ↔ b.toNat = 2 ∨ b.toNat = 4 ∨ b.toNat = 8 ∨ b.toNat = 16 := by
    simp only [List.mem_cons, List.not_mem_nil, or_false, ← BitVec.toNat_inj]
    rfl
  rw [hmem]
  unfold readPhrase
  split
  · next h => simp [h, eq_comm]
  · next h => simp [h, eq_comm]
  · next h => simp [h, eq_comm]
  · next h => simp [h, eq_comm]
  · next h2 h4 h8 h16 =>
    exact ⟨nofun, fun h => by tauto⟩

/-- Triggers are read as their ranges allow (R102). -/
theorem readTrigger_eq_some {r : RawCue} {t : Trigger} : readTrigger r = some t ↔
    (r.trigger = 0 ∧ 1 ≤ r.bar.toNat ∧ 1 ≤ r.beat.toNat ∧ r.beat.toNat ≤ 16 ∧ r.pulse.toNat ≤ 95
      ∧ t = .at ⟨r.bar.toNat, r.beat.toNat, r.pulse.toNat⟩)
    ∨ (r.trigger = 1 ∧ t = .nextBeat) ∨ (r.trigger = 2 ∧ t = .nextBar)
    ∨ (r.trigger = 3 ∧ r.phraseK ∈ ([2, 4, 8, 16] : List Byte) ∧ t = .nextPhrase r.phraseK.toNat) := by
  have h0 : r.trigger = 0 ↔ r.trigger.toNat = 0 := byte_eq_iff (by decide)
  have h1 : r.trigger = 1 ↔ r.trigger.toNat = 1 := byte_eq_iff (by decide)
  have h2 : r.trigger = 2 ↔ r.trigger.toNat = 2 := byte_eq_iff (by decide)
  have h3 : r.trigger = 3 ↔ r.trigger.toNat = 3 := byte_eq_iff (by decide)
  rw [h0, h1, h2, h3]
  unfold readTrigger
  split
  · next h => simp [h, eq_comm, and_assoc]
  · next h => simp [h, eq_comm]
  · next h => simp [h, eq_comm]
  · next h =>
    simp only [h, Option.map_eq_some_iff, readPhrase_eq_some]
    constructor
    · rintro ⟨k, ⟨hm, rfl⟩, rfl⟩
      exact .inr (.inr (.inr ⟨trivial, hm, rfl⟩))
    · rintro (⟨h, -⟩ | ⟨h, -⟩ | ⟨h, -⟩ | ⟨-, hm, rfl⟩)
      · cases h
      · cases h
      · cases h
      · exact ⟨_, ⟨hm, rfl⟩, rfl⟩
  · next h0 h1 h2 h3 => exact ⟨nofun, fun h => by tauto⟩

theorem readPolicy_of_le {b : Byte} (h : b.toNat ≤ 1) : readPolicy b = some (if b = 0 then .drop else .fire) := by
  obtain rfl | rfl := (byte_le_one b).1 h <;> rfl

theorem readPolicy_of_lt {b : Byte} (h : 1 < b.toNat) : readPolicy b = none := by
  unfold readPolicy
  split
  · omega
  · omega
  · rfl

/-- The n-th argument byte, from the most significant. -/
theorem argByte_toNat (args : BitVec 48) (n : Nat) :
    (argByte args n).toNat = (args.toNat / 256 ^ (5 - n)) % 256 := by
  have hpow : (256 : Nat) ^ (5 - n) = 2 ^ (8 * (5 - n)) := by
    rw [pow_mul]
    norm_num
  rw [argByte, BitVec.toNat_setWidth, BitVec.toNat_ushiftRight, Nat.shiftRight_eq_div_pow, hpow]

section Actions

variable {args : BitVec 48} {a : CueAction} {cut : Bool}

theorem readAction_mute_iff : readAction .mute args = some (a, cut) ↔
    cut = false ∧ argWord args ≠ 0 ∧ a = .mute (argWord args) := by
  rw [readAction]
  by_cases h : argWord args = 0
  · simp [h]
  · rw [if_neg h, Option.some.injEq, Prod.mk.injEq]
    exact ⟨fun ⟨ha, hc⟩ => ⟨hc.symm, h, ha.symm⟩, fun ⟨hc, _, ha⟩ => ⟨ha.symm, hc.symm⟩⟩

theorem readAction_unmute_iff : readAction .unmute args = some (a, cut) ↔
    cut = false ∧ argWord args ≠ 0 ∧ a = .unmute (argWord args) := by
  rw [readAction]
  by_cases h : argWord args = 0
  · simp [h]
  · rw [if_neg h, Option.some.injEq, Prod.mk.injEq]
    exact ⟨fun ⟨ha, hc⟩ => ⟨hc.symm, h, ha.symm⟩, fun ⟨hc, _, ha⟩ => ⟨ha.symm, hc.symm⟩⟩

theorem readAction_loadRow_iff : readAction .loadRow args = some (a, cut) ↔ ∃ j : Fin 4, cut = false
    ∧ (argByte args 0).toNat = j.val ∧ (argByte args 1).toNat ≤ 127 ∧ (argByte args 2).toNat ≤ 63
    ∧ a = .loadRow j (argByte args 1).toNat (argByte args 2).toNat := by
  rw [readAction]
  cases hj : readFour (argByte args 0) with
  | none =>
    refine ⟨nofun, fun ⟨j, _, h, _⟩ => ?_⟩
    rw [readFour_of_val h] at hj
    cases hj
  | some j =>
    have hval := (readFour_eq_some _ j).1 hj
    dsimp only
    split
    · next hr =>
      rw [Option.some.injEq, Prod.mk.injEq]
      refine ⟨fun ⟨ha, hc⟩ => ⟨j, hc.symm, hval, hr.1, hr.2, ha.symm⟩, fun ⟨i, hc, hi, _, _, ha⟩ => ?_⟩
      have hij : i = j := Fin.ext (hi.symm.trans hval)
      exact ⟨by rw [ha, hij], hc.symm⟩
    · next hr => exact ⟨nofun, fun ⟨_, _, _, h1, h2, _⟩ => absurd ⟨h1, h2⟩ hr⟩

theorem readAction_halfLoad_iff : readAction .halfLoad args = some (a, cut) ↔ ∃ j : Fin 4, cut = false
    ∧ (argByte args 0).toNat = j.val ∧ (argByte args 1).toNat ≤ 127 ∧ (argByte args 2).toNat ≤ 31
    ∧ a = .halfLoad j (argByte args 1).toNat (argByte args 2).toNat := by
  rw [readAction]
  cases hj : readFour (argByte args 0) with
  | none =>
    refine ⟨nofun, fun ⟨j, _, h, _⟩ => ?_⟩
    rw [readFour_of_val h] at hj
    cases hj
  | some j =>
    have hval := (readFour_eq_some _ j).1 hj
    dsimp only
    split
    · next hr =>
      rw [Option.some.injEq, Prod.mk.injEq]
      refine ⟨fun ⟨ha, hc⟩ => ⟨j, hc.symm, hval, hr.1, hr.2, ha.symm⟩, fun ⟨i, hc, hi, _, _, ha⟩ => ?_⟩
      have hij : i = j := Fin.ext (hi.symm.trans hval)
      exact ⟨by rw [ha, hij], hc.symm⟩
    · next hr => exact ⟨nofun, fun ⟨_, _, _, h1, h2, _⟩ => absurd ⟨h1, h2⟩ hr⟩

theorem readAction_tempo_iff : readAction .tempo args = some (a, cut) ↔
    a = .tempo (max 2000 (min 30000 (argWord args).toNat)) (min 64 (argByte args 2).toNat)
      ∧ cut = decide ((argWord args).toNat < 2000 ∨ 30000 < (argWord args).toNat ∨ 64 < (argByte args 2).toNat) := by
  have hcut : ((clampTempo (argWord args)).2 || (clampGlide (argByte args 2)).2) =
      decide ((argWord args).toNat < 2000 ∨ 30000 < (argWord args).toNat ∨ 64 < (argByte args 2).toNat) := by
    rw [Bool.eq_iff_iff]
    simp only [clampTempo, clampGlide, clampNat, Bool.or_eq_true, decide_eq_true_iff]
    unfold Config.tempoMin Config.tempoMax Config.glideBeatsMax
    omega
  have hread : readAction .tempo args = some
      (.tempo (max 2000 (min 30000 (argWord args).toNat)) (min 64 (argByte args 2).toNat),
        decide ((argWord args).toNat < 2000 ∨ 30000 < (argWord args).toNat ∨ 64 < (argByte args 2).toNat)) := by
    rw [readAction, hcut]
    simp [clampTempo, clampGlide, clampNat, Config.tempoMin, Config.tempoMax, Config.glideBeatsMax]
  rw [hread, Option.some.injEq, Prod.mk.injEq]
  exact and_congr eq_comm eq_comm

theorem readAction_meter_iff : readAction .meter args = some (a, cut) ↔ cut = false
    ∧ 1 ≤ (argByte args 0).toNat ∧ (argByte args 0).toNat ≤ 16 ∧ a = .meter (argByte args 0).toNat := by
  rw [readAction]
  split
  · next hr =>
    rw [Option.some.injEq, Prod.mk.injEq]
    exact ⟨fun ⟨ha, hc⟩ => ⟨hc.symm, hr.1, hr.2, ha.symm⟩, fun ⟨hc, _, _, ha⟩ => ⟨ha.symm, hc.symm⟩⟩
  · next hr => exact ⟨nofun, fun ⟨_, h1, h2, _⟩ => absurd ⟨h1, h2⟩ hr⟩

theorem readAction_stop_iff : readAction .stop args = some (a, cut) ↔ cut = false ∧ a = .stop := by
  rw [readAction, Option.some.injEq, Prod.mk.injEq]
  exact ⟨fun ⟨ha, hc⟩ => ⟨hc.symm, ha.symm⟩, fun ⟨hc, ha⟩ => ⟨ha.symm, hc.symm⟩⟩

theorem readAction_mark_iff : readAction .mark args = some (a, cut) ↔ cut = false ∧ a = .mark := by
  rw [readAction, Option.some.injEq, Prod.mk.injEq]
  exact ⟨fun ⟨ha, hc⟩ => ⟨hc.symm, ha.symm⟩, fun ⟨hc, ha⟩ => ⟨ha.symm, hc.symm⟩⟩

end Actions

theorem readActionKind_of_lt {b : Byte} (h : 7 < b.toNat) : readActionKind b = none := by
  unfold readActionKind
  have hne : ∀ n, n ≤ 7 → b.toNat ≠ n := fun n hn e => by omega
  simp [hne 0 (by decide), hne 1 (by decide), hne 2 (by decide), hne 3 (by decide), hne 4 (by decide), hne 5 (by decide),
    hne 6 (by decide), hne 7 (by decide)]

/-- The kinds and the arguments of an action are read as their ranges allow (R103). -/
theorem exists_readAction_iff {action : Byte} {args : BitVec 48} {a : CueAction} {cut : Bool} :
    (∃ k, readActionKind action = some k ∧ readAction k args = some (a, cut)) ↔
      (cut = false ∧
        ((action = 0 ∧ argWord args ≠ 0 ∧ a = .mute (argWord args))
        ∨ (action = 1 ∧ argWord args ≠ 0 ∧ a = .unmute (argWord args))
        ∨ (∃ j : Fin 4, action = 2 ∧ (argByte args 0).toNat = j.val ∧ (argByte args 1).toNat ≤ 127
          ∧ (argByte args 2).toNat ≤ 63 ∧ a = .loadRow j (argByte args 1).toNat (argByte args 2).toNat)
        ∨ (∃ j : Fin 4, action = 3 ∧ (argByte args 0).toNat = j.val ∧ (argByte args 1).toNat ≤ 127
          ∧ (argByte args 2).toNat ≤ 31 ∧ a = .halfLoad j (argByte args 1).toNat (argByte args 2).toNat)
        ∨ (action = 5 ∧ 1 ≤ (argByte args 0).toNat ∧ (argByte args 0).toNat ≤ 16 ∧ a = .meter (argByte args 0).toNat)
        ∨ (action = 6 ∧ a = .stop) ∨ (action = 7 ∧ a = .mark)))
      ∨ (action = 4
        ∧ a = .tempo (max 2000 (min 30000 (argWord args).toNat)) (min 64 (argByte args 2).toNat)
        ∧ cut = decide ((argWord args).toNat < 2000 ∨ 30000 < (argWord args).toNat ∨ 64 < (argByte args 2).toNat)) := by
  have hone : ∀ {k}, readActionKind action = some k →
      ((∃ k, readActionKind action = some k ∧ readAction k args = some (a, cut)) ↔ readAction k args = some (a, cut)) :=
    fun {k} h => by simp [h]
  obtain h | h : action.toNat ≤ 7 ∨ 7 < action.toNat := by omega
  · have hcases : action = 0 ∨ action = 1 ∨ action = 2 ∨ action = 3 ∨ action = 4 ∨ action = 5 ∨ action = 6
        ∨ action = 7 := by bv_omega
    obtain rfl | rfl | rfl | rfl | rfl | rfl | rfl | rfl := hcases
    · rw [hone (k := .mute) rfl, readAction_mute_iff]
      simp
    · rw [hone (k := .unmute) rfl, readAction_unmute_iff]
      simp
    · rw [hone (k := .loadRow) rfl, readAction_loadRow_iff]
      simp
    · rw [hone (k := .halfLoad) rfl, readAction_halfLoad_iff]
      simp
    · rw [hone (k := .tempo) rfl, readAction_tempo_iff]
      simp
    · rw [hone (k := .meter) rfl, readAction_meter_iff]
      simp
    · rw [hone (k := .stop) rfl, readAction_stop_iff]
      simp
    · rw [hone (k := .mark) rfl, readAction_mark_iff]
      simp
  · refine ⟨fun ⟨k, hk, _⟩ => ?_, ?_⟩
    · rw [readActionKind_of_lt h] at hk
      cases hk
    · rintro (⟨-, ⟨rfl, -⟩ | ⟨rfl, -⟩ | ⟨_, rfl, -⟩ | ⟨_, rfl, -⟩ | ⟨rfl, -⟩ | ⟨rfl, -⟩ | ⟨rfl, -⟩⟩ | ⟨rfl, -⟩) <;>
        exact absurd h (by decide)

end Sys2Proof.Machine

/-! PROOF. SCHEDULE_CUE (section 6.3): the checks in their order, the slot and the place in the pool. -/

namespace Sys2Proof.Machine

/-! ### The slot and the place -/

/-- Every cue is one of a port's. -/
theorem length_eq_counts (cs : List Cue) : cs.length = (cs.countP fun c => decide (c.owner = .a))
    + (cs.countP fun c => decide (c.owner = .b)) + (cs.countP fun c => decide (c.owner = .c))
    + (cs.countP fun c => decide (c.owner = .d)) := by
  induction cs with
  | nil => rfl
  | cons c cs ih =>
    simp only [List.length_cons, List.countP_cons, ih]
    cases c.owner <;> simp <;> omega

/-- A port below its allocation leaves the pool a free slot (R98, R99). -/
theorem State.PoolInv.length_lt {s : State} (hs : s.PoolInv) {p : Port} (hp : s.cueCount p ≠ s.allocation p) :
    s.cues.length < 128 := by
  obtain ⟨-, -, -, -, -, hle, hsum⟩ := hs
  have hall := length_eq_counts s.cues
  simp only [← State.cueCount_eq] at hall
  rw [State.allocated_eq] at hsum
  have ha := hle .a
  have hb := hle .b
  have hc := hle .c
  have hd := hle .d
  have hlt : s.cueCount p < s.allocation p := lt_of_le_of_ne (hle p) hp
  cases p <;> omega

/-- The slot a cue takes is the lowest empty one; a pool that is not full has one (R98, R105). -/
theorem exists_freeSlot {cs : List Cue} (h : cs.length < 128) : ∃ id, freeSlot cs = some id ∧ id < 128
    ∧ (∀ c ∈ cs, c.id ≠ id) ∧ ∀ n < id, ∃ c ∈ cs, c.id = n := by
  cases hf : freeSlot cs with
  | none =>
    have hsub : List.range 128 ⊆ cs.map Cue.id := fun n hn => by
      have hno := List.find?_eq_none.1 hf n hn
      simpa using hno
    have hle := (List.subperm_of_subset List.nodup_range hsub).length_le
    rw [List.length_range, List.length_map] at hle
    omega
  | some id =>
    obtain ⟨hlt, hfree⟩ := freeSlot_spec hf
    refine ⟨id, rfl, hlt, hfree, fun n hn => ?_⟩
    obtain ⟨-, -, hfirst⟩ := List.find?_range_eq_some.1 hf
    simpa using hfirst n hn

/-- A cue's place in the pool: behind every cue of its own or an earlier position (R106). -/
theorem insertCue_split {cs : List Cue} (h : InPoolOrder cs) (c : Cue) : ∃ before after, cs = before ++ after
    ∧ (∀ d ∈ before, c.fire.before d.fire = false) ∧ (∀ d ∈ after, c.fire.before d.fire = true)
    ∧ insertCue c cs = before ++ c :: after := by
  induction cs with
  | nil => exact ⟨[], [], rfl, nofun, nofun, rfl⟩
  | cons d cs ih =>
    obtain ⟨hd, hcs⟩ := List.pairwise_cons.1 h
    rw [insertCue]
    by_cases hcd : c.fire.before d.fire = true
    · refine ⟨[], d :: cs, rfl, nofun, fun e he => ?_, if_pos hcd⟩
      obtain rfl | he := List.mem_cons.1 he
      · exact hcd
      · have hde := hd e he
        rw [Position.before_iff] at hcd ⊢
        rw [Position.before_false_iff] at hde
        omega
    · obtain ⟨before, after, hsplit, hb, ha, hins⟩ := ih hcs
      refine ⟨d :: before, after, by rw [hsplit]; rfl, fun e he => ?_, ha, by rw [if_neg hcd, hins]; rfl⟩
      obtain rfl | he := List.mem_cons.1 he
      · simpa using hcd
      · exact hb e he

/-! ### The checks -/

/-- What a cue that has passed its checks comes to, its place resolved (R105). -/
def State.takeCue (s : State) (p : Port) (r : RawCue) (t : Trigger) (a : CueAction) (policy : LatePolicy) (cut : Bool) :
    State × Answer :=
  match s.place t policy, freeSlot s.cues with
  | some (fire, late), some id =>
    ({ s with cues := insertCue ⟨id, p, r.tag, t, fire, a, policy, late, false⟩ s.cues },
      ⟨takenStatus cut, byte id ++ toBytes 2 r.tag.toNat ++ positionBytes fire ++ flagByte late⟩)
  | none, _ => refusal s .past
  | some _, none => refusal s .noRoom

section Checks

variable {p : Port} {r : RawCue} {s : State}

theorem scheduleCueBody_of_unknown (h : readActionKind r.action = none) :
    scheduleCueBody p r s = refusal s .range := by
  rw [scheduleCueBody, h]

variable {k : ActionKind} (hk : readActionKind r.action = some k) (hl : k.leaderOnly = true → s.leads p = true)

include hk hl

theorem scheduleCueBody_of_kind : scheduleCueBody p r s =
    match readTrigger r, readPolicy r.policy, readAction k r.arguments with
    | some t, some policy, some (a, cut) =>
      if !s.scheduleRight p a then refusal s .notHeld
      else if s.clearing && a.needsPatterns then refusal s .busy
      else if s.cueCount p = s.allocation p then refusal s .noRoom
      else s.takeCue p r t a policy cut
    | _, _, _ => refusal s .range := by
  have hlead : (k.leaderOnly && !s.leads p) = false := by
    cases h : k.leaderOnly with
    | false => rfl
    | true => rw [hl h]; rfl
  rw [scheduleCueBody, hk]
  dsimp only
  rw [if_neg (by rw [hlead]; exact Bool.false_ne_true)]
  rfl

theorem scheduleCueBody_of_unread
    (h : readTrigger r = none ∨ readPolicy r.policy = none ∨ readAction k r.arguments = none) :
    scheduleCueBody p r s = refusal s .range := by
  rw [scheduleCueBody_of_kind hk hl]
  split
  · next h1 h2 h3 => simp [h1, h2, h3] at h
  · rfl

theorem scheduleCueBody_of_read {t : Trigger} {policy : LatePolicy} {a : CueAction} {cut : Bool}
    (ht : readTrigger r = some t) (hp : readPolicy r.policy = some policy)
    (ha : readAction k r.arguments = some (a, cut)) : scheduleCueBody p r s =
      if !s.scheduleRight p a then refusal s .notHeld
      else if s.clearing && a.needsPatterns then refusal s .busy
      else if s.cueCount p = s.allocation p then refusal s .noRoom
      else s.takeCue p r t a policy cut := by
  rw [scheduleCueBody_of_kind hk hl, ht, hp, ha]

end Checks

/-- The leader's actions are TEMPO, METER and STOP (R103). -/
theorem mem_leaderActions {b : Byte} {k : ActionKind} (hk : readActionKind b = some k) (hl : k.leaderOnly = true) :
    b ∈ ([4, 5, 6] : List Byte) := by
  have hlt : ¬ 7 < b.toNat := fun h => by rw [readActionKind_of_lt h] at hk; cases hk
  have hcases : b = 0 ∨ b = 1 ∨ b = 2 ∨ b = 3 ∨ b = 4 ∨ b = 5 ∨ b = 6 ∨ b = 7 := by bv_omega
  have hother : ∀ j : ActionKind, j.leaderOnly = false → readActionKind b = some j → False := fun j hj h => by
    rw [hk] at h
    cases h
    rw [hl] at hj
    cases hj
  obtain rfl | rfl | rfl | rfl | rfl | rfl | rfl | rfl := hcases
  · exact (hother .mute rfl rfl).elim
  · exact (hother .unmute rfl rfl).elim
  · exact (hother .loadRow rfl rfl).elim
  · exact (hother .halfLoad rfl rfl).elim
  · decide
  · decide
  · decide
  · exact (hother .mark rfl rfl).elim

theorem State.holdsLanes_iff (s : State) (p : Port) (lanes : BitVec 16) :
    s.holdsLanes p lanes = true ↔ ∀ l : Fin 16, lanes.getLsbD l = true → s.laneHolder l = some p := by
  rw [State.holdsLanes, List.all_eq_true]
  refine ⟨fun h l hl => ?_, fun h l _ => ?_⟩
  · have hall := h l (mem_lanesAll l)
    rw [hl] at hall
    exact of_decide_eq_true hall
  · cases hl : lanes.getLsbD l.val with
    | false => rfl
    | true => exact decide_eq_true (h l hl)

end Sys2Proof.Machine

/-! PROOF. SCHEDULE_CUE settled: each check's answer, and the cue's entry into the pool. -/

namespace Sys2Proof.Machine

/-- The lanes an action names. -/
def CueAction.lanes : CueAction → BitVec 16
  | .mute l => l
  | .unmute l => l
  | _ => 0

/-- The player an action loads. -/
def CueAction.player : CueAction → Option (Fin 4)
  | .loadRow j _ _ => some j
  | .halfLoad j _ _ => some j
  | _ => none

/-- The right an action needs, in the lanes it names and the player it loads (R103). -/
theorem State.scheduleRight_iff (s : State) (p : Port) (a : CueAction) : s.scheduleRight p a = true ↔
    (∀ l : Fin 16, a.lanes.getLsbD l = true → s.laneHolder l = some p)
      ∧ ∀ j, a.player = some j → s.playerHolder j = some p := by
  have hzero : ∀ l : Fin 16, (0 : BitVec 16).getLsbD l.val = true → s.laneHolder l = some p := fun l h => by
    simp at h
  cases a with
  | mute lanes | unmute lanes => exact (s.holdsLanes_iff p lanes).trans ⟨fun h => ⟨h, nofun⟩, fun h => h.1⟩
  | loadRow j | halfLoad j =>
    refine decide_eq_true_iff.trans ⟨fun h => ⟨hzero, fun i hi => ?_⟩, fun h => h.2 j rfl⟩
    cases hi
    exact h
  | tempo | meter | stop | mark => exact ⟨fun _ => ⟨hzero, nofun⟩, fun _ => rfl⟩

theorem CueAction.needsPatterns_iff (a : CueAction) : a.needsPatterns = true ↔ a.player ≠ none := by
  cases a <;> simp [CueAction.needsPatterns, CueAction.player]

/-- A cue that has its slot and its place enters the pool there (R105, R106). -/
theorem State.takeCue_of_place {s : State} (hpool : s.PoolInv) {p : Port} (hroom : s.cueCount p ≠ s.allocation p)
    {r : RawCue} {t : Trigger} {a : CueAction} {policy : LatePolicy} {cut late : Bool} {y : Position}
    (hplace : s.place t policy = some (y, late)) :
    ∃ (id : Nat) (before after : List Cue), s.cues = before ++ after
      ∧ (∀ c ∈ before, y.before c.fire = false) ∧ (∀ c ∈ after, y.before c.fire = true)
      ∧ id < 128 ∧ (∀ c ∈ s.cues, c.id ≠ id) ∧ (∀ n < id, ∃ c ∈ s.cues, c.id = n)
      ∧ s.takeCue p r t a policy cut =
        ({ s with cues := before ++ ⟨id, p, r.tag, t, y, a, policy, late, false⟩ :: after },
          ⟨takenStatus cut, byte id ++ toBytes 2 r.tag.toNat ++ positionBytes y ++ flagByte late⟩) := by
  obtain ⟨id, hid, hlt, hfree, hfirst⟩ := exists_freeSlot (hpool.length_lt hroom)
  obtain ⟨-, -, horder, -⟩ := hpool
  obtain ⟨before, after, hsplit, hb, ha, hins⟩ :=
    insertCue_split horder ⟨id, p, r.tag, t, y, a, policy, late, false⟩
  refine ⟨id, before, after, hsplit, hb, ha, hlt, hfree, hfirst, ?_⟩
  unfold State.takeCue
  rw [hplace, hid]
  dsimp only
  rw [hins]

/-- A trigger is resolved from the generator position and the engine (R102). -/
theorem State.resolve_congr {s u : State} (hg : u.gen = s.gen) (he : u.engine = s.engine) (t : Trigger) :
    u.resolve t = s.resolve t := by
  have hmeter : u.meterHere = s.meterHere := by
    unfold State.meterHere
    rw [hg, he]
  have hbar : u.nextBarStart = s.nextBarStart := by
    unfold State.nextBarStart
    rw [hg]
  have hbeat : u.nextBeatStart = s.nextBeatStart := by
    unfold State.nextBeatStart
    rw [hg, hmeter, hbar]
  unfold State.resolve
  rw [hg, hbar, hbeat]

/-- The place of a trigger that resolves: itself, or now where it is late and the policy says FIRE (R105). -/
theorem State.place_of_resolve {s : State} {t : Trigger} {q : Position} (h : s.resolve t = some q) (policy : LatePolicy) :
    s.place t policy = if q.before s.gen.position = true ∧ policy = .drop then none
      else some (if q.before s.gen.position then s.gen.position else q, q.before s.gen.position) := by
  unfold State.place
  rw [h]
  dsimp only
  cases q.before s.gen.position <;> cases policy <;> simp

/-- Settles O38: the fields by their readings, the checks in order, the place by `takeCue_of_place`. -/
theorem scheduledCueEntersThePool : Obligations.ScheduledCueEntersThePool := by
  refine ⟨fun r t => readTrigger_eq_some, fun action args a cut => ?_, fun p r s hcan hleader => ?_⟩
  · intro first b
    have hb : ∀ n, (argByte args n).toNat = b n := argByte_toNat args
    have h := exists_readAction_iff (action := action) (args := args) (a := a) (cut := cut)
    simp only [hb] at h
    exact h
  · intro i u x
    have hexec : exec i s = answers p 0x39 (scheduleCueBody p r u).2.status (scheduleCueBody p r u).2.payload
        (scheduleCueBody p r u).1 := exec_taken rfl hcan
    have hleads : ∀ k, readActionKind r.action = some k → k.leaderOnly = true → u.leads p = true := fun k hk hl =>
      (State.heard_leads s p _ p).trans (State.leads_eq_true (hleader (mem_leaderActions hk hl)))
    have hunread : ∀ {k}, readActionKind r.action = some k → (readTrigger r = none ∨ readPolicy r.policy = none
        ∨ readAction k r.arguments = none) → exec i s = answers p 0x39 .range [] u := fun hk h => by
      rw [hexec, scheduleCueBody_of_unread hk (hleads _ hk) h]
      rfl
    refine ⟨fun h => ?_, fun h => ?_, fun k hk h => hunread hk (.inr (.inr h)), fun k t a cut hk ht hp ha => ?_⟩
    · rw [hexec, scheduleCueBody_of_unknown (readActionKind_of_lt h)]
      rfl
    · cases hk : readActionKind r.action with
      | none =>
        rw [hexec, scheduleCueBody_of_unknown hk]
        rfl
      | some k => exact hunread hk (h.imp_right fun h => .inl (readPolicy_of_lt h))
    · intro needsLanes needsPlayer right full free
      have hlanes : needsLanes = a.lanes := by cases a <;> rfl
      have hplayer : needsPlayer = a.player := by cases a <;> rfl
      have hright : u.scheduleRight p a = true ↔ right := by
        rw [State.scheduleRight_iff, ← hlanes, ← hplayer]
        have hl : ∀ l, u.laneHolder l = s.laneHolder l := State.heard_laneHolder s p _
        have hj : ∀ j, u.playerHolder j = s.playerHolder j := State.heard_playerHolder s p _
        simp only [hl, hj]
        rfl
      have hneeds : (u.clearing && a.needsPatterns) = true ↔ s.clearing = true ∧ needsPlayer ≠ none := by
        rw [hplayer, ← CueAction.needsPatterns_iff, Bool.and_eq_true]
        exact Iff.rfl.and Iff.rfl |>.trans (by rw [State.heard_clearing])
      have hfull : u.cueCount p = u.allocation p ↔ full := by
        have hc : u.cueCount p = s.cueCount p := State.heard_cueCount s p _ p
        have ha : u.allocation p = s.allocation p := State.heard_allocation s p _ p
        rw [hc, ha]
      have hbody := scheduleCueBody_of_read (p := p) (s := u) hk (hleads k hk) ht (readPolicy_of_le hp) ha
      have hpatterns : s.clearing = false ∨ needsPlayer = none → ¬ (u.clearing && a.needsPatterns) = true := fun h h' => by
        obtain ⟨hc, hn⟩ := hneeds.1 h'
        obtain h | h := h
        · rw [hc] at h; cases h
        · exact hn h
      have hfree : free → scheduleCueBody p r u = u.takeCue p r t a (if r.policy = 0 then .drop else .fire) cut :=
        fun ⟨hr, hc, hnot⟩ => by
          rw [hbody, if_neg (by simp [hright.2 hr]), if_neg (hpatterns hc), if_neg (mt hfull.1 hnot)]
      have hresolve : u.resolve t = s.resolve t :=
        State.resolve_congr (State.heard_gen s p _) (State.heard_engine s p _) t
      refine ⟨fun h => ?_, fun h hc hn => ?_, fun h hc hf => ?_, fun h hnone => ?_, fun q h hq => ⟨fun hb hpol => ?_,
        fun hb hpool => ?_⟩⟩
      · rw [hexec, hbody, if_pos (by simpa using mt hright.1 h)]
        rfl
      · rw [hexec, hbody, if_neg (by simp [hright.2 h]), if_pos (hneeds.2 ⟨hc, hn⟩)]
        rfl
      · rw [hexec, hbody, if_neg (by simp [hright.2 h]), if_neg (hpatterns hc), if_pos (hfull.2 hf)]
        rfl
      · have hplace : u.place t (if r.policy = 0 then .drop else .fire) = none := by
          unfold State.place
          rw [hresolve, hnone]
        rw [hexec, hfree h, State.takeCue, hplace]
        rfl
      · have hplace := State.place_of_resolve (hresolve.trans hq) (if r.policy = 0 then .drop else .fire)
        rw [State.heard_gen, if_pos hpol, if_pos ⟨hb, rfl⟩] at hplace
        rw [hexec, hfree h, State.takeCue, if_pos hpol, hplace]
        rfl
      · intro late y
        have hplace := State.place_of_resolve (hresolve.trans hq) (if r.policy = 0 then .drop else .fire)
        have hnot : ¬ (q.before x = true ∧ (if r.policy = 0 then LatePolicy.drop else .fire) = .drop) := fun ⟨h1, h2⟩ => by
          obtain h | h := hb
          · rw [h1] at h; cases h
          · rw [h] at h2; cases h2
        rw [State.heard_gen, if_neg hnot] at hplace
        have hpool' : u.PoolInv := poolInv_dependsOn.keep (heard_touches s p i) hpool
        obtain ⟨id, before, after, hsplit, hbefore, hafter, hlt, hids, hfirst, htake⟩ :=
          State.takeCue_of_place hpool' (mt hfull.1 h.2.2) hplace (r := r) (a := a) (cut := cut)
        have hcues : u.cues = s.cues := State.heard_cues s p _
        rw [hcues] at hsplit hids hfirst
        refine ⟨id, before, after, hsplit, hbefore, hafter, hlt, hids, hfirst, ?_⟩
        rw [hexec, hfree h, htake]
        simp only [positionBytes, List.append_assoc]
        rfl

end Sys2Proof.Machine

/-! PROOF. Fills, reads and settings of the pattern memory, and the end of the clear (chapter 7). -/

namespace Sys2Proof.Machine

/-! ### Fills -/

/-- The steps of a group whose positions are in the set, in ascending order (R126). -/
theorem mem_blockSteps {step j : Nat} {positions : Byte} :
    j ∈ blockSteps step positions ↔
      step / 4 * 4 ≤ j ∧ j < step / 4 * 4 + 4 ∧ positions.getLsbD (j - step / 4 * 4) = true := by
  have hmem : ∀ i, i ∈ [0, 1, 2, 3] ↔ i < 4 := fun i => by simp; omega
  simp only [blockSteps, List.mem_map, List.mem_filter, hmem]
  constructor
  · rintro ⟨i, ⟨hi, hp⟩, rfl⟩
    exact ⟨Nat.le_add_right _ _, by omega, by rwa [Nat.add_sub_cancel_left]⟩
  · rintro ⟨hlo, hhi, hp⟩
    exact ⟨j - step / 4 * 4, ⟨by omega, hp⟩, by omega⟩

theorem blockSteps_pairwise (step : Nat) (positions : Byte) : (blockSteps step positions).Pairwise (· < ·) := by
  refine List.Pairwise.map _ (fun i j (h : i < j) => Nat.add_lt_add_left h _) (List.Pairwise.filter _ ?_)
  decide

/-- BLOCK_FILL's steps as a choice among the 64 of a row (R126). -/
theorem blockSteps_eq_filter {step : Nat} (hstep : step ≤ 63) (positions : Byte) :
    blockSteps step positions = (List.range 64).filter fun j =>
      decide (step / 4 * 4 ≤ j) && decide (j < step / 4 * 4 + 4) && positions.getLsbD (j - step / 4 * 4) := by
  refine List.Pairwise.eq_of_mem_iff (blockSteps_pairwise step positions)
    (List.Pairwise.filter _ List.pairwise_lt_range) fun j => ?_
  simp only [mem_blockSteps, List.mem_filter, List.mem_range, Bool.and_eq_true, decide_eq_true_eq, and_assoc]
  exact ⟨fun ⟨hlo, hhi, hp⟩ => ⟨by omega, hlo, hhi, hp⟩, fun ⟨_, h⟩ => h⟩

/-- A fill writes its first step and then the others. -/
theorem fillSteps_cons (m : List Host.Cell) (row x : Nat) (steps : List Nat) (planes : BitVec 8) (l : Levels) :
    fillSteps m row (x :: steps) planes l =
      fillSteps (writeLevels m (cellAddress row x 0) planes l) row steps planes l := rfl

/-- A fill gives the planes of the set in each of its steps their levels, and leaves every other cell its own
(R126, R127). -/
theorem levelAt_fillSteps {row r j q : Nat} (hrow : row ≤ 127) (hj : j < 64) (hq : q < 8) (planes : BitVec 8)
    (l : Levels) (steps : List Nat) :
    ∀ {m : List Host.Cell}, (∀ x ∈ steps, x ≤ 63) → Memory.wf cellsInMemory m = true →
      levelAt (fillSteps m row steps planes l) (cellAddress r j q) =
        if r = row ∧ j ∈ steps ∧ planes.getLsbD q = true then l[q] else levelAt m (cellAddress r j q) := by
  induction steps with
  | nil => intro m _ _; simp [fillSteps]
  | cons x steps ih =>
    intro m hx hm
    have hx0 : x < 64 := Nat.lt_succ_of_le (hx x List.mem_cons_self)
    rw [fillSteps_cons, ih (fun y hy => hx y (List.mem_cons_of_mem x hy))
      (Memory.wf_writeLevels hm (cellAddress_add_lt hrow hx0) planes l), levelAt_writeStep hm hrow hx0 hj hq]
    by_cases hmem : r = row ∧ j ∈ steps ∧ planes.getLsbD q = true
    · rw [if_pos hmem, if_pos ⟨hmem.1, List.mem_cons_of_mem x hmem.2.1, hmem.2.2⟩]
    · rw [if_neg hmem]
      refine if_congr ⟨fun ⟨hr, hjx, hp⟩ => ⟨hr, hjx ▸ List.mem_cons_self, hp⟩, fun ⟨hr, hjx, hp⟩ => ?_⟩ rfl rfl
      exact ⟨hr, (List.mem_cons.1 hjx).resolve_right fun h => hmem ⟨hr, h, hp⟩, hp⟩

/-- Settles O41: each fill writes a list of steps, and a fill's cells are known step by step. -/
theorem fillsWriteTheFillRegister : Obligations.FillsWriteTheFillRegister := by
  refine ⟨?_, ?_⟩
  · intro p row step positions planes s i hcan hclear hmem u w eff base
    have hexec : exec i s = answers p 0x45 (blockFillBody p row step positions planes u).2.status
        (blockFillBody p row step positions planes u).2.payload (blockFillBody p row step positions planes u).1 :=
      exec_cleared rfl hcan hclear
    have heff : u.effectiveSet p planes = eff := by simp [State.effectiveSet_eq, u, eff, w]
    refine ⟨fun hbad => ?_, fun hrow hstep => ?_⟩
    · rw [hexec, blockFillBody, if_neg (by omega)]
      rfl
    · have hsteps : ∀ x ∈ blockSteps step.toNat positions, x ≤ 63 := fun x hx => by
        obtain ⟨-, hlt, -⟩ := mem_blockSteps.1 hx
        omega
      refine ⟨fillSteps s.patternMem row.toNat (blockSteps step.toNat positions) eff w.fill, ?_⟩
      rw [← blockSteps_eq_filter hstep positions]
      refine ⟨?_, Memory.wf_fillSteps hrow _ _ _ hsteps hmem.1, fun r j q hq hj =>
        levelAt_fillSteps hrow hj hq eff w.fill _ hsteps hmem.1⟩
      rw [hexec, blockFillBody, if_pos ⟨hrow, hstep⟩]
      dsimp only
      rw [heff, State.heard_patternMem, State.heard_writeSetting]
      rfl
  · intro p row planes s i hcan hclear hmem u w eff
    have hexec : exec i s = answers p 0x46 (rowFillBody p row planes u).2.status
        (rowFillBody p row planes u).2.payload (rowFillBody p row planes u).1 := exec_cleared rfl hcan hclear
    have heff : u.effectiveSet p planes = eff := by simp [State.effectiveSet_eq, u, eff, w]
    have hsteps : ∀ x ∈ List.range 64, x ≤ 63 := fun x hx => Nat.le_of_lt_succ (List.mem_range.1 hx)
    refine ⟨fun hbad => ?_, fun hrow => ⟨fillSteps s.patternMem row.toNat (List.range 64) eff w.fill, ?_,
      Memory.wf_fillSteps hrow _ _ _ hsteps hmem.1, fun r j q hq hj => ?_⟩⟩
    · rw [hexec, rowFillBody, if_neg (by omega)]
      rfl
    · rw [hexec, rowFillBody, if_pos hrow]
      dsimp only
      rw [heff, State.heard_patternMem, State.heard_writeSetting]
    · rw [levelAt_fillSteps hrow hj hq eff w.fill _ hsteps hmem.1]
      simp [hj]

end Sys2Proof.Machine

/-! PROOF. The bytes of eight levels, READ_STEPS, the write settings and the end of the clear (chapter 7). -/

namespace Sys2Proof.Machine

/-! ### The bytes of eight levels -/

/-- Each plane's level stands in two bits of a word, plane 0's on top (R174). -/
theorem packLevels_level (ls : Levels) {q : Nat} (hq : q < 8) :
    (packLevels ls >>> (2 * (7 - q))).setWidth 2 = ls[q] := by
  refine BitVec.eq_of_getLsbD_eq fun i hi => ?_
  have hpack : packLevels ls = (((((((((0 : BitVec 16) <<< 2 ||| ls[0].setWidth 16) <<< 2 ||| ls[1].setWidth 16) <<< 2
      ||| ls[2].setWidth 16) <<< 2 ||| ls[3].setWidth 16) <<< 2 ||| ls[4].setWidth 16) <<< 2 ||| ls[5].setWidth 16) <<< 2
      ||| ls[6].setWidth 16) <<< 2 ||| ls[7].setWidth 16) := rfl
  rw [hpack]
  interval_cases q <;> interval_cases i <;>
    simp

/-- A word's levels are its own bits, two by two (R174). -/
theorem packLevels_unpackLevels (w : BitVec 16) : packLevels (unpackLevels w) = w := by
  refine BitVec.eq_of_getLsbD_eq fun i hi => ?_
  have hlevel := packLevels_level (unpackLevels w) (q := 7 - i / 2) (by omega)
  rw [unpackLevels_getElem w (by omega)] at hlevel
  have hbit := congrArg (BitVec.getLsbD · (i % 2)) hlevel
  have hplace : 2 * (7 - (7 - i / 2)) + i % 2 = i := by omega
  have hlt : i % 2 < 2 := Nat.mod_lt _ (by omega)
  simpa [hplace, hlt] using hbit

/-- Two bits of a word in its two bytes (R174). -/
theorem toBytes_bits (w : BitVec 16) {q : Nat} (hq : q < 8) :
    (((toBytes 2 w.toNat).getD (q / 4) 0) >>> (2 * (3 - q % 4))).setWidth 2 = (w >>> (2 * (7 - q))).setWidth 2 := by
  apply BitVec.eq_of_toNat_eq
  have hlt := w.isLt
  unfold toBytes toBytes toBytes
  interval_cases q <;> simp [Nat.shiftRight_eq_div_pow] <;> omega

/-- A plane's level in the two bytes of a step: plane 0 in the top bits of the first (R128, R174). -/
theorem levelsBytes_level (ls : Levels) {q : Nat} (hq : q < 8) :
    (((levelsBytes ls).getD (q / 4) 0) >>> (2 * (3 - q % 4))).setWidth 2 = ls[q] :=
  (toBytes_bits _ hq).trans (packLevels_level ls hq)

theorem levelsAt_getElem (m : List Host.Cell) (a : Nat) {q : Nat} (hq : q < 8) :
    (levelsAt m a)[q] = levelAt m (a + q) := by
  simp [levelsAt]

/-! ### READ_STEPS -/

section Pairs

variable {f : Nat → List Byte}

theorem length_flatMap_pairs (hf : ∀ i, (f i).length = 2) (n : Nat) : ((List.range n).flatMap f).length = 2 * n := by
  simp [List.length_flatMap, hf, Nat.mul_comm]

/-- A byte of a list of byte pairs is a byte of its pair. -/
theorem getD_flatMap_pairs (hf : ∀ i, (f i).length = 2) {n j k : Nat} (hj : j < n) (hk : k < 2) :
    ((List.range n).flatMap f).getD (2 * j + k) 0 = (f j).getD k 0 := by
  induction n with
  | zero => omega
  | succ n ih =>
    have hlen := length_flatMap_pairs hf n
    rw [List.range_succ, List.flatMap_append, List.flatMap_singleton]
    obtain hlt | rfl := Nat.lt_or_eq_of_le (Nat.le_of_lt_succ hj)
    · rw [List.getD_append _ _ _ _ (by omega)]
      exact ih hlt
    · rw [List.getD_append_right _ _ _ _ (by omega), hlen, Nat.add_sub_cancel_left]

end Pairs

/-- Settles O42, command by command and then the end of the clear. -/
theorem patternReadsMasksAndClear : Obligations.PatternReadsMasksAndClear := by
  refine ⟨?_, fun p planes s hcan hclear => ?_, fun p s hcan hclear => ?_, fun p l s hcan hclear => ?_, fun s => ?_⟩
  · intro p row first count s hcan hclear u n
    have hexec : exec (.readSteps p row first count) s = answers p 0x41 (readStepsBody row first count u).2.status
        (readStepsBody row first count u).2.payload (readStepsBody row first count u).1 := exec_cleared rfl hcan hclear
    refine ⟨fun hbad => ?_, fun hrow hfirst => ?_⟩
    · rw [hexec, readStepsBody, if_neg (by omega)]
      rfl
    · refine ⟨(List.range n).flatMap fun i =>
        levelsBytes (levelsAt s.patternMem (cellAddress row.toNat (first.toNat + i) 0)), ?_,
        length_flatMap_pairs (fun _ => rfl) n, fun j q hj hq => ?_⟩
      · rw [hexec, readStepsBody, if_pos ⟨hrow, hfirst⟩]
        dsimp only
        rw [State.heard_patternMem]
        simp [takenStatus, byte, n, u]
      · rw [getD_flatMap_pairs (fun _ => rfl) hj (by omega), levelsBytes_level _ hq, levelsAt_getElem _ _ hq,
          ← cellAddress_eq_add]
  · have hexec := exec_cleared (i := .loadMask p planes) rfl hcan hclear
    rw [hexec, loadMaskBody, State.heard_writeSetting]
    simp [WriteSettings.maskBytes, byte, toBytes, MaskMode.code]
  · intro w
    have hexec := exec_cleared (i := .maskReset p) rfl hcan hclear
    rw [hexec, maskResetBody, State.heard_writeSetting]
    cases hm : w.mode with
    | oneShot => simp [w, hm, WriteSettings.maskBytes, byte, toBytes, MaskMode.code]
    | held => simp [w, WriteSettings.maskBytes, byte, toBytes, MaskMode.code]
  · refine ⟨unpackLevels l, ?_, fun q => unpackLevels_getElem l q.isLt⟩
    have hexec := exec_cleared (i := .loadFill p l) rfl hcan hclear
    rw [hexec, loadFillBody, State.heard_writeSetting, levelsBytes, packLevels_unpackLevels]
  · have hdue : s.clearDue = true ↔ s.rstLow = false ∧ s.clearing = true ∧ 4000 ≤ s.houseTime.toNat := by
      simp [State.clearDue, State.reached, Config.clearEnd, and_assoc]
    refine ⟨fun hr hc h => if_pos (hdue.2 ⟨hr, hc, h⟩), fun h => if_neg fun hd => ?_, fun a => rfl⟩
    obtain ⟨hr, hc, ht⟩ := hdue.1 hd
    obtain h | h | h := h
    · rw [hr] at h
      cases h
    · rw [hc] at h
      cases h
    · omega

end Sys2Proof.Machine

/-! PROOF. The loading, setting and reading of players (section 7.4). -/

namespace Sys2Proof.Machine

/-! ### Windows -/

theorem Memory.mem_window {m : List Host.Cell} {base len start : Nat} {c : Host.Cell}
    (h : c ∈ Memory.window m base len start) : start ≤ c.1 ∧ c.1 < start + len := by
  simp only [Memory.window, List.mem_map, List.mem_filter, Bool.and_eq_true, decide_eq_true_eq] at h
  obtain ⟨d, ⟨-, hlo, hhi⟩, rfl⟩ := h
  dsimp only
  omega

/-- Below where the second of two lists of cells begins, the first alone is read. -/
theorem Memory.read_append_left {m m' : List Host.Cell} {a : Nat} (h : ∀ c ∈ m', c.1 ≠ a) :
    Memory.read (m ++ m') a = Memory.read m a := by
  induction m with
  | nil =>
    induction m' with
    | nil => rfl
    | cons c m' ih =>
      obtain ⟨k, v⟩ := c
      have hk : k ≠ a := h (k, v) List.mem_cons_self
      have hrest : Memory.read ((k, v) :: m') a = Memory.read m' a := if_neg hk
      exact hrest.trans (ih fun c hc => h c (List.mem_cons_of_mem _ hc))
  | cons c m ih =>
    obtain ⟨k, v⟩ := c
    rw [List.cons_append, Memory.read, Memory.read, ih]

/-- Past where the first of two lists of cells ends, the second alone is read. -/
theorem Memory.read_append_right {m m' : List Host.Cell} {a : Nat} (h : ∀ c ∈ m, c.1 ≠ a) :
    Memory.read (m ++ m') a = Memory.read m' a := by
  induction m with
  | nil => rfl
  | cons c m ih =>
    obtain ⟨k, v⟩ := c
    have hk : k ≠ a := h (k, v) List.mem_cons_self
    rw [List.cons_append, Memory.read, if_neg hk]
    exact ih fun c hc => h c (List.mem_cons_of_mem _ hc)

theorem levelAt_window (m : List Host.Cell) (base len start a : Nat) :
    levelAt (Memory.window m base len start) a =
      if start ≤ a ∧ a < start + len then levelAt m (a - start + base) else 0 := by
  unfold levelAt
  rw [Memory.read_window]
  split <;> rfl

/-- Two windows of half a row each: the lower is read below step 32, the upper from there. -/
theorem levelAt_halves (m m' : List Host.Cell) (base base' : Nat) {step q : Nat} (hs : step < 64) (hq : q < 8) :
    levelAt (Memory.window m base 256 0 ++ Memory.window m' base' 256 256) (step * 8 + q) =
      if step < 32 then levelAt m (base + (step * 8 + q)) else levelAt m' (base' + (step * 8 + q - 256)) := by
  by_cases h : step < 32
  · rw [if_pos h, levelAt, Memory.read_append_left fun c hc => by have := Memory.mem_window hc; omega, ← levelAt,
      levelAt_window, if_pos (by omega), Nat.sub_zero, Nat.add_comm]
  · rw [if_neg h, levelAt, Memory.read_append_right fun c hc => by have := Memory.mem_window hc; omega, ← levelAt,
      levelAt_window, if_pos (by omega), Nat.add_comm]

/-! ### Loads -/

/-- A loaded row is the row's cells (R135). -/
theorem Player.levelAt_loadRow (pl : Player) (mem : List Host.Cell) (row tap : Nat) (making : Bool) {step q : Nat}
    (hs : step < 64) (hq : q < 8) :
    levelAt (pl.loadRow mem row tap making).register (step * 8 + q) = levelAt mem (cellAddress row step q) := by
  have haddr : step * 8 + q - 0 + cellAddress row 0 0 = cellAddress row step q := by
    simp only [cellAddress, cellsPerRow, cellsPerStep]
    omega
  change levelAt (Memory.window mem _ _ 0) _ = _
  rw [levelAt_window, haddr, if_pos (by simp only [cellsPerRow]; omega)]

/-- What a row load leaves of a player (R135). -/
theorem Player.loadRow_eq (pl : Player) (mem : List Host.Cell) (row tap : Nat) (making : Bool) :
    pl.loadRow mem row tap making = ⟨true, (pl.loadRow mem row tap making).register, row, row,
      if making = true ∧ pl.primed = true then pl.cursor else tap, tap, pl.stepLength, pl.pendingLength, none,
      if making then some tap else none⟩ := by
  cases making <;> simp [Player.loadRow]

/-- LOAD_ROW answers whether it leaves a row jump pending (R135). -/
theorem Player.flagByte_loadRow (pl : Player) (mem : List Host.Cell) (row tap : Nat) (making : Bool) :
    flagByte (pl.loadRow mem row tap making).rowJump.isSome = [if making then 1 else 0] := by
  cases making <;> rfl

/-- A half load changes the register, the source of the half it loads and the half tap (R137). -/
theorem Player.loadHalf_eq (pl : Player) (mem : List Host.Cell) (row tap : Nat) :
    let lower : Bool := decide (32 ≤ pl.cursor)
    pl.loadHalf mem row tap = { pl with
      register := (pl.loadHalf mem row tap).register
      sourceLower := if lower then row else pl.sourceLower
      sourceUpper := if lower then pl.sourceUpper else row
      halfTap := some (if lower then .lower else .upper, tap) } := by
  intro lower
  unfold Player.loadHalf halfOf
  by_cases h : pl.cursor < 32
  · simp [h, lower, Half.other]
  · simp [h, lower, Half.other, Nat.not_lt.1 h]

/-- A half load copies the half that does not hold the cursor and keeps the other (R137). -/
theorem Player.levelAt_loadHalf (pl : Player) (mem : List Host.Cell) (row tap : Nat) {step q : Nat}
    (hs : step < 64) (hq : q < 8) :
    levelAt (pl.loadHalf mem row tap).register (step * 8 + q) =
      if decide (step < 32) = decide (32 ≤ pl.cursor) then levelAt mem (cellAddress row step q)
      else levelAt pl.register (step * 8 + q) := by
  have hlow : cellAddress row 0 0 + (step * 8 + q) = cellAddress row step q := by
    simp only [cellAddress, cellsPerRow, cellsPerStep]
    omega
  unfold Player.loadHalf halfOf cellsPerHalf
  by_cases h : pl.cursor < 32
  · have hfrom : ¬ 32 ≤ pl.cursor := by omega
    simp only [if_pos h, Half.other, hfrom]
    refine (levelAt_halves pl.register mem 0 _ hs hq).trans ?_
    by_cases hstep : step < 32
    · simp [hstep]
    · have hhigh : cellAddress row 32 0 + (step * 8 + q - 256) = cellAddress row step q := by
        simp only [cellAddress, cellsPerRow, cellsPerStep]
        omega
      simp [hstep, hhigh]
  · have hfrom : 32 ≤ pl.cursor := by omega
    simp only [if_neg h, Half.other, hfrom]
    refine (levelAt_halves mem pl.register _ 256 hs hq).trans ?_
    by_cases hstep : step < 32
    · simp [hstep, hlow]
    · have hhigh : 256 + (step * 8 + q - 256) = step * 8 + q := by omega
      simp [hstep, hhigh]

/-! ### The checks of a player's command -/

section Checks

variable {p : Port} {n : Byte} {ok : Bool} {body : Fin 4 → State → State × Answer} {s : State}

theorem withPlayer_refused (h : 3 < n.toNat ∨ ok = false) : withPlayer p n ok body s = refusal s .range := by
  unfold withPlayer
  split
  · rfl
  · next i hi =>
    have hval := (readFour_eq_some n i).1 hi
    have hok : ok = false := h.resolve_left (by omega)
    rw [if_neg (by rw [hok]; exact Bool.false_ne_true)]

theorem withPlayer_notHeld {j : Fin 4} (hn : n.toNat = j.val) (hok : ok = true) (h : s.playerHolder j ≠ some p) :
    withPlayer p n ok body s = refusal s .notHeld := by
  rw [withPlayer, readFour_of_val hn]
  exact (if_pos hok).trans (if_neg h)

theorem withPlayer_held {j : Fin 4} (hn : n.toNat = j.val) (hok : ok = true) (h : s.playerHolder j = some p) :
    withPlayer p n ok body s = body j s := by
  rw [withPlayer, readFour_of_val hn]
  exact (if_pos hok).trans (if_pos h)

end Checks

theorem byte_of_toNat {b : Byte} {n : Nat} (h : b.toNat = n) : byte n = [b] := by
  rw [byte, toBytes, toBytes, Nat.pow_zero, Nat.div_one, ← h, BitVec.ofNat_toNat, BitVec.setWidth_eq]

theorem byte_ite (c : Prop) [Decidable c] : byte (if c then 1 else 0) = [if c then 1 else 0] := by
  split <;> rfl

/-! ### Reading a player -/

theorem Player.length_registerBytes (pl : Player) : pl.registerBytes.length = 128 :=
  length_flatMap_pairs (fun _ => rfl) 64

/-- A plane's level in the bytes of a play register (R141, R174). -/
theorem Player.registerBytes_level (pl : Player) {step q : Nat} (hs : step < 64) (hq : q < 8) :
    ((pl.registerBytes.getD (2 * step + q / 4) 0) >>> (2 * (3 - q % 4))).setWidth 2 =
      levelAt pl.register (step * 8 + q) := by
  rw [Player.registerBytes, getD_flatMap_pairs (fun _ => rfl) hs (by omega), levelsBytes_level _ hq]
  exact levelsAt_getElem _ _ hq

theorem readPlayerBody_refused {n w : Byte} (h : 3 < n.toNat ∨ 1 < w.toNat) (s : State) :
    readPlayerBody n w s = refusal s .range := by
  unfold readPlayerBody
  obtain h | h := h
  · rw [readFour_of_lt h]
  · rw [readFlag_of_lt h]
    cases readFour n <;> rfl

theorem optionBytes_byte (o : Option Nat) : optionBytes 1 byte o = toBytes 1 (o.getD 0) :=
  (optionBytes_getD (w := 1) id o).trans (by simp)

/-- A half tap is sent as its half and its step, zeros where there is none (R141). -/
theorem halfTap_bytes (o : Option (Half × Nat)) :
    optionBytes 2 (fun h : Half × Nat => byte h.1.code ++ byte h.2) o =
      match o with
      | some (.lower, t) => [0] ++ toBytes 1 t
      | some (.upper, t) => [1] ++ toBytes 1 t
      | none => [0, 0] := by
  obtain _ | ⟨_ | _, t⟩ := o
  · rfl
  · simp [optionBytes, Half.code, byte, toBytes]
  · simp [optionBytes, Half.code, byte, toBytes]

/-- Settles O43, command by command. -/
theorem playersAreLoadedSetAndRead : Obligations.PlayersAreLoadedSetAndRead := by
  refine ⟨⟨?_, ?_⟩, ?_, ?_⟩
  · intro p n row tap s hcan hclear i u
    have hexec := exec_cleared (i := i) rfl hcan hclear
    have hmaking : u.making = decide (s.transport.state = .running ∨ s.transport.state = .stopPending) := by
      simp [State.making, u]
    refine ⟨fun hbad => ?_, fun j hn hrow htap => ?_⟩
    · rw [hexec, withPlayer_refused (hbad.imp_right fun h => decide_eq_false (by omega))]
      rfl
    · have hok : decide (row.toNat ≤ 127 ∧ tap.toNat ≤ 63) = true := decide_eq_true ⟨hrow, htap⟩
      refine ⟨fun h => ?_, fun h => ?_⟩
      · rw [hexec, withPlayer_notHeld hn hok (by simpa [u] using h)]
        rfl
      · intro making old
        refine ⟨(old.loadRow s.patternMem row.toNat tap.toNat making).register, ?_,
          fun step q => Player.levelAt_loadRow old _ _ _ _⟩
        rw [hexec, withPlayer_held hn hok (by simpa using h), loadRowBody, hmaking, State.heard_player,
          State.heard_patternMem]
        dsimp only
        rw [Player.flagByte_loadRow, byte_of_toNat hn, byte_of_toNat rfl, byte_of_toNat rfl, Player.loadRow_eq]
        rfl
  · intro p n row tap s hcan hclear i u
    have hexec := exec_cleared (i := i) rfl hcan hclear
    refine ⟨fun hbad => ?_, fun j hn hrow htap => ?_⟩
    · rw [hexec, withPlayer_refused (hbad.imp_right fun h => decide_eq_false (by omega))]
      rfl
    · have hok : decide (row.toNat ≤ 127 ∧ tap.toNat ≤ 31) = true := decide_eq_true ⟨hrow, htap⟩
      intro old lower
      have hheld : s.playerHolder j = some p → exec i s = answers p 0x49
          (halfLoadBody row.toNat tap.toNat j u).2.status (halfLoadBody row.toNat tap.toNat j u).2.payload
          (halfLoadBody row.toNat tap.toNat j u).1 := fun h => by
        rw [hexec, withPlayer_held hn hok (by simpa using h)]
      have hold : u.player j = old := State.heard_player s p i j
      refine ⟨fun h => ?_, fun h hp => ?_, fun h hp hj => ?_, fun h hp hj => ?_⟩
      · rw [hexec, withPlayer_notHeld hn hok (by simpa [u] using h)]
        rfl
      · rw [hheld h, halfLoadBody, hold]
        simp [hp, refusal, Answer.bare]
      · rw [hheld h, halfLoadBody, hold]
        simp [hp, Option.isSome_iff_ne_none.2 hj, refusal, Answer.bare]
      · refine ⟨(old.loadHalf s.patternMem row.toNat tap.toNat).register, ?_,
          fun step q => Player.levelAt_loadHalf old _ _ _⟩
        have hcode : byte (halfOf old.cursor).other.code = [if lower then 0 else 1] := by
          by_cases hc : old.cursor < 32
          · simp [halfOf, hc, Half.other, Half.code, lower, Nat.not_le.2 hc, byte_eq]
          · simp [halfOf, hc, Half.other, Half.code, lower, Nat.not_lt.1 hc, byte_eq]
        have hpl := old.loadHalf_eq s.patternMem row.toNat tap.toNat
        have hfree : old.rowJump.isSome = false := by rw [hj]; rfl
        rw [hheld h, halfLoadBody, hold, if_pos hp, hfree, if_neg Bool.false_ne_true, State.heard_patternMem]
        dsimp only
        rw [hcode, byte_of_toNat hn, byte_of_toNat rfl, byte_of_toNat rfl, hpl]
        rfl
  · intro p n l s hcan hclear i u v
    have hexec := exec_cleared (i := i) rfl hcan hclear
    refine ⟨fun hbad => ?_, fun j hn => ⟨fun h => ?_, fun h => ?_⟩⟩
    · rw [hexec, withPlayer_refused (.inl hbad)]
      rfl
    · rw [hexec, withPlayer_notHeld hn rfl (by simpa [u] using h)]
      rfl
    · rw [hexec, withPlayer_held hn rfl (by simpa using h), setStepLengthBody]
      dsimp only
      rw [takenStatus_clampNat (by decide), State.heard_player]
      rfl
  · intro p n w s hcan hclear i u
    have hexec := exec_cleared (i := i) rfl hcan hclear
    refine ⟨fun hbad => ?_, fun j hn hw => ?_⟩
    · rw [hexec, readPlayerBody_refused hbad]
      rfl
    · intro pl
      obtain ⟨present, hpresent, hbits⟩ := presence_spec
        (bs := [pl.pendingLength.isSome, pl.halfTap.isSome, pl.rowJump.isSome, decide (w = 1)]) (by simp)
      refine ⟨present, optionBytes 128 Player.registerBytes (if decide (w = 1) then some pl else none), ?_,
        hbits 0, hbits 1, hbits 2, (hbits 3).trans ?_, ?_, fun h => ?_, fun h step q hs hq => ?_⟩
      · rw [hexec, readPlayerBody, readFour_of_val hn, readFlag_of_le hw]
        dsimp only
        rw [State.heard_player, State.heard_playerHolder, hpresent]
        rw [byte_ite, optionBytes_byte, optionBytes_byte, halfTap_bytes]
        rfl
      · rfl
      · exact length_optionBytes Player.length_registerBytes _
      · subst h
        rfl
      · subst h
        exact Player.registerBytes_level pl hs hq

end Sys2Proof.Machine

/-! PROOF. What a player does at a record (section 7.4). -/

namespace Sys2Proof.Machine

/-! ### The moves of the cursor -/

section Moves

variable {pl : Player} {h : Half} {t : Nat}

/-- A half is entered at its tap where one is pending for it, and the tap is gone (R132). -/
theorem Player.enterHalf_of_tap (ht : pl.halfTap = some (h, t)) :
    pl.enterHalf h = { pl with cursor := h.start + t, halfTap := none } := by
  rw [Player.enterHalf, ht]
  exact if_pos rfl

/-- A half with no tap pending for it is entered at its first step (R132). -/
theorem Player.enterHalf_of_none (ht : ∀ t, pl.halfTap ≠ some (h, t)) :
    pl.enterHalf h = { pl with cursor := h.start } := by
  unfold Player.enterHalf
  split
  · next h' t' htap => rw [if_neg fun e => ht t' (by rw [htap, e])]
  · rfl

/-- At home a player starts at the tap pending for the home step's half, and the tap is gone (R133). -/
theorem Player.goHome_of_tap (ht : pl.halfTap = some (h, t)) (hh : h = halfOf pl.home) :
    pl.goHome = { pl with cursor := h.start + t, halfTap := none } := by
  rw [Player.goHome, ht]
  exact if_pos hh

theorem Player.goHome_of_none (ht : ∀ h t, pl.halfTap = some (h, t) → h ≠ halfOf pl.home) :
    pl.goHome = { pl with cursor := pl.home } := by
  unfold Player.goHome
  split
  · next h' t' htap => rw [if_neg (ht h' t' htap)]
  · rfl

theorem Player.goHome_frame (pl : Player) :
    pl.goHome = { pl with cursor := pl.goHome.cursor, halfTap := pl.goHome.halfTap } := by
  unfold Player.goHome
  split
  · split <;> rfl
  · rfl

theorem Player.enterHalf_frame (pl : Player) (h : Half) :
    pl.enterHalf h = { pl with cursor := (pl.enterHalf h).cursor, halfTap := (pl.enterHalf h).halfTap } := by
  unfold Player.enterHalf
  split
  · split <;> rfl
  · rfl

theorem Player.move_of_jump {j : Nat} (hj : pl.rowJump = some j) :
    pl.move = { pl with cursor := j, rowJump := none } := by
  rw [Player.move, hj]

theorem Player.move_next (hj : pl.rowJump = none) (h31 : pl.cursor ≠ 31) (h63 : pl.cursor ≠ 63) :
    pl.move = { pl with cursor := pl.cursor + 1 } := by
  rw [Player.move, hj]
  exact (if_neg h31).trans (if_neg h63)

/-- From the last step of a half the other half is entered (R132). -/
theorem Player.move_enter (hj : pl.rowJump = none) (hc : pl.cursor = if h = .upper then 31 else 63) :
    pl.move = pl.enterHalf h := by
  rw [Player.move, hj]
  cases h with
  | upper => exact if_pos hc
  | lower =>
    have hc : pl.cursor = 63 := hc
    exact (if_neg (by omega)).trans (if_pos hc)

theorem Player.move_rowJump (pl : Player) : pl.move.rowJump = none := by
  unfold Player.move
  split
  · rfl
  · next hj =>
    split
    · rw [Player.enterHalf_frame]
      exact hj
    · split
      · rw [Player.enterHalf_frame]
        exact hj
      · exact hj

theorem Player.move_frame (pl : Player) : pl.move =
    { pl with cursor := pl.move.cursor, halfTap := pl.move.halfTap, rowJump := pl.move.rowJump } := by
  unfold Player.move
  split
  · rfl
  · split
    · rw [Player.enterHalf_frame]
    · split
      · rw [Player.enterHalf_frame]
      · rfl

end Moves

/-! ### A player at a record -/

/-- A player once its pending step length is taken, at a bar start (R131). -/
def Player.lengthened (pl : Player) (bar : Bool) : Player :=
  { pl with
    stepLength := if bar then pl.pendingLength.getD pl.stepLength else pl.stepLength
    pendingLength := if bar then none else pl.pendingLength }

/-- A record begins a step of a primed player where it is the launch record or its index is a multiple of the
step length (R131). -/
def Player.StartsAt (pl : Player) (launch : Bool) (index : Nat) : Prop :=
  pl.primed = true ∧ (launch = true ∨ pl.stepLength ∣ index)

theorem Player.takeLength_eq (pl : Player) (bar : Bool) :
    (if bar then pl.takeLength else pl) = pl.lengthened bar := by
  unfold Player.takeLength Player.lengthened
  obtain ⟨_, _, _, _, _, _, _, _ | _, _, _⟩ := pl <;> cases bar <;> rfl

section AtRecord

variable {pl : Player} {launch bar : Bool} {index : Nat}

theorem Player.atRecord_eq (pl : Player) (launch bar : Bool) (index : Nat) : pl.atRecord launch bar index =
    let v := pl.lengthened bar
    if v.primed && (launch || decide (index % v.stepLength = 0)) then
      if launch then ({ v.goHome with rowJump := none }, true, false)
      else (v.move, true, decide (halfOf v.move.cursor ≠ halfOf v.cursor))
    else (v, false, false) := by
  rw [Player.atRecord, Player.takeLength_eq]

theorem Player.startsAt_iff (v : Player) (launch : Bool) (index : Nat) :
    (v.primed && (launch || decide (index % v.stepLength = 0))) = true ↔ v.StartsAt launch index := by
  simp [Player.StartsAt, Nat.dvd_iff_mod_eq_zero]

theorem Player.atRecord_stays (h : ¬ (pl.lengthened bar).StartsAt launch index) :
    pl.atRecord launch bar index = (pl.lengthened bar, false, false) := by
  rw [Player.atRecord_eq]
  exact if_neg fun e => h ((Player.startsAt_iff _ _ _).1 e)

theorem Player.atRecord_launches (h : (pl.lengthened bar).StartsAt launch index) (hl : launch = true) :
    pl.atRecord launch bar index = ({ (pl.lengthened bar).goHome with rowJump := none }, true, false) := by
  rw [Player.atRecord_eq]
  exact (if_pos ((Player.startsAt_iff _ _ _).2 h)).trans (if_pos hl)

theorem Player.atRecord_moves (h : (pl.lengthened bar).StartsAt launch index) (hl : launch = false) :
    pl.atRecord launch bar index = ((pl.lengthened bar).move, true,
      decide (halfOf (pl.lengthened bar).move.cursor ≠ halfOf pl.cursor)) := by
  rw [Player.atRecord_eq]
  exact (if_pos ((Player.startsAt_iff _ _ _).2 h)).trans (if_neg (by rw [hl]; exact Bool.false_ne_true))

/-- A record changes a player's step lengths, cursor, half tap and row jump alone (R131, R132). -/
theorem Player.atRecord_frame (pl : Player) (launch bar : Bool) (index : Nat) :
    (pl.atRecord launch bar index).1 = { pl.lengthened bar with
      cursor := (pl.atRecord launch bar index).1.cursor
      halfTap := (pl.atRecord launch bar index).1.halfTap
      rowJump := (pl.atRecord launch bar index).1.rowJump } := by
  by_cases h : (pl.lengthened bar).StartsAt launch index
  · cases hl : launch with
    | true =>
      rw [← hl, Player.atRecord_launches h hl, Player.goHome_frame]
    | false =>
      rw [← hl, Player.atRecord_moves h hl]
      exact Player.move_frame _
  · rw [Player.atRecord_stays h]

end AtRecord

/-- The HALF_FREE notices of a record: one to the holder of each player that crossed (R134). -/
theorem State.mem_halfFrees {s : State} {after : Vector (Player × Bool × Bool) 4} {p : Port} {b : NoticeBody} :
    (p, b) ∈ s.halfFrees after ↔ ∃ i : Fin 4, after[i].2.2 = true ∧ s.playerHolder i = some p
      ∧ b = if after[i].1.cursor < 32 then .halfFree i .upper after[i].1.cursor after[i].1.sourceLower
        else .halfFree i .lower after[i].1.cursor after[i].1.sourceUpper := by
  have hbody : ∀ (i : Fin 4) (v : Player), NoticeBody.halfFree i (halfOf v.cursor).other v.cursor (v.source (halfOf v.cursor)) =
      if v.cursor < 32 then .halfFree i .upper v.cursor v.sourceLower else .halfFree i .lower v.cursor v.sourceUpper := by
    intro i v
    unfold halfOf
    split <;> rfl
  rw [State.halfFrees, List.mem_filterMap]
  constructor
  · rintro ⟨i, -, h⟩
    dsimp only at h
    split at h
    · next hc hp =>
      cases h
      exact ⟨i, hc, hp, hbody i _⟩
    · cases h
  · rintro ⟨i, hc, hp, rfl⟩
    refine ⟨i, mem_fourAll i, ?_⟩
    dsimp only
    rw [hc, hp, ← hbody]

/-- Settles O44: a player's move, and then the step entries and the notices of a record. -/
theorem playerMovesAtAStepStart : Obligations.PlayerMovesAtAStepStart := by
  refine ⟨⟨?_, fun s h => ?_⟩, fun s launch => ?_⟩
  · intro launch bar index pl len r starts
    have hframe : r.1 = { pl.lengthened bar with cursor := r.1.cursor, halfTap := r.1.halfTap, rowJump := r.1.rowJump } :=
      pl.atRecord_frame launch bar index
    have hstarts : starts ↔ (pl.lengthened bar).StartsAt launch index := Iff.rfl
    have hpending : r.1.pendingLength = if bar then none else pl.pendingLength := congrArg Player.pendingLength hframe
    refine ⟨congrArg Player.stepLength hframe, fun hb => by rw [hpending, hb]; rfl, fun hb => by rw [hpending, hb]; rfl,
      hframe.trans (by rw [hpending]; rfl), ?_, fun h => ?_, fun h hl => ?_, fun h hl => ?_⟩
    · by_cases h : (pl.lengthened bar).StartsAt launch index
      · refine iff_of_true ?_ h
        cases hl : launch with
        | true => simp only [r, Player.atRecord_launches h hl]
        | false => simp only [r, Player.atRecord_moves h hl]
      · exact iff_of_false (by simp [r, Player.atRecord_stays h]) h
    · have hr : r = (pl.lengthened bar, false, false) := Player.atRecord_stays (hstarts.not.1 h)
      rw [hr]
      exact ⟨rfl, rfl, rfl, rfl⟩
    · have hr : r = ({ (pl.lengthened bar).goHome with rowJump := none }, true, false) :=
        Player.atRecord_launches (hstarts.1 h) hl
      rw [hr]
      refine ⟨rfl, rfl, fun h t ht hh => ?_, fun ht => ?_⟩
      · rw [Player.goHome_of_tap (pl := pl.lengthened bar) ht hh]
        exact ⟨rfl, rfl⟩
      · rw [Player.goHome_of_none (pl := pl.lengthened bar) ht]
        exact ⟨rfl, rfl⟩
    · have hr : r = ((pl.lengthened bar).move, true,
          decide (halfOf (pl.lengthened bar).move.cursor ≠ halfOf pl.cursor)) := Player.atRecord_moves (hstarts.1 h) hl
      rw [hr]
      refine ⟨decide_eq_true_iff, Player.move_rowJump _, fun j hj => ?_, fun hj => ⟨fun h31 h63 => ?_, fun h hc => ⟨fun t ht => ?_, fun ht => ?_⟩⟩⟩
      · rw [Player.move_of_jump (pl := pl.lengthened bar) hj]
        exact ⟨rfl, rfl⟩
      · rw [Player.move_next (pl := pl.lengthened bar) hj h31 h63]
        exact ⟨rfl, rfl⟩
      · rw [Player.move_enter (pl := pl.lengthened bar) hj hc, Player.enterHalf_of_tap (pl := pl.lengthened bar) ht]
        exact ⟨rfl, rfl⟩
      · rw [Player.move_enter (pl := pl.lengthened bar) hj hc, Player.enterHalf_of_none (pl := pl.lengthened bar) ht]
        exact ⟨rfl, rfl⟩
  · simp only [Position.barStart] at h
    simp only [Bool.and_eq_true, decide_eq_true_eq] at h
    simp [Position.index, h]
  · intro after
    refine ⟨s.playersAt_get launch, fun i k ls => ?_, stepEntries_pairwise after, fun p b => State.mem_halfFrees⟩
    rw [mem_stepEntries, StepEntry.mk.injEq]
    refine and_congr_right fun _ => ⟨fun ⟨_, hk, hl⟩ => ⟨hk, ?_⟩, fun ⟨hk, hl⟩ => ⟨rfl, hk, ?_⟩⟩
    · rw [hk]
      exact (Player.levels_eq_iff _ _ _).1 hl
    · rw [hk] at hl
      exact (Player.levels_eq_iff _ _ _).2 hl

end Sys2Proof.Machine

/-! PROOF. Claims and releases of lanes and players (section 8.1). -/

namespace Sys2Proof.Machine

/-! ### Ranges of a claim table -/

/-- A range past the end of a table of `size` entries, or of none (R143, R144). -/
def BadRange (size : Nat) (f n : Byte) : Prop := size ≤ f.toNat ∨ n = 0 ∨ size < f.toNat + n.toNat

theorem rangeOk_iff {size : Nat} {f n : Byte} : rangeOk size f n = true ↔ ¬ BadRange size f n := by
  have hzero : n = 0 ↔ n.toNat = 0 := byte_eq_iff (by decide)
  simp only [rangeOk, BadRange, hzero, Bool.and_eq_true, decide_eq_true_eq]
  omega

theorem inRange_iff {f n : Byte} {k : Nat} : inRange f n k = true ↔ f.toNat ≤ k ∧ k < f.toNat + n.toNat := by
  simp [inRange]

/-- In an ascending list the first entry of a kind is the lowest of the kind. -/
theorem find?_lowest {m : Nat} {P : Fin m → Bool} {l : Fin m} (hP : P l = true) (hlow : ∀ k, k < l → P k = false) :
    ∀ {all : List (Fin m)}, all.Pairwise (· < ·) → l ∈ all → all.find? P = some l := by
  intro all
  induction all with
  | nil => intro _ hl; cases hl
  | cons x all ih =>
    intro hs hl
    obtain ⟨hx, hs⟩ := List.pairwise_cons.1 hs
    obtain rfl | hl := List.mem_cons.1 hl
    · exact List.find?_cons_of_pos hP
    · rw [List.find?_cons_of_neg (by rw [hlow x (hx l hl)]; exact Bool.false_ne_true)]
      exact ih hs hl

section Table

variable {m : Nat} {holder : Fin m → Option Port} {all : List (Fin m)} {p : Port} {f n : Byte}

/-- The lowest entry of the range that another port holds (R143). -/
theorem find?_heldByOther (hs : all.Pairwise (· < ·)) (hall : ∀ l, l ∈ all) {l : Fin m} {q : Port}
    (hl : f.toNat ≤ l.val ∧ l.val < f.toNat + n.toNat) (hq : holder l = some q) (hne : q ≠ p)
    (hlow : ∀ k : Fin m, (f.toNat ≤ k.val ∧ k.val < f.toNat + n.toNat) → k < l →
      holder k = none ∨ holder k = some p) :
    all.find? (fun l => inRange f n l.val && heldByOther p (holder l)) = some l := by
  refine find?_lowest ?_ (fun k hk => ?_) hs (hall l)
  · rw [inRange_iff.2 hl, hq]
    exact decide_eq_true hne
  · by_cases hin : f.toNat ≤ k.val ∧ k.val < f.toNat + n.toNat
    · obtain h | h := hlow k hin hk <;> simp [h, heldByOther]
    · rw [Bool.eq_false_of_not_eq_true (inRange_iff.not.2 hin), Bool.false_and]

/-- With the range free or the port's own there is no such entry (R143). -/
theorem find?_heldByOther_none (hfree : ∀ l : Fin m, (f.toNat ≤ l.val ∧ l.val < f.toNat + n.toNat) →
      holder l = none ∨ holder l = some p) :
    all.find? (fun l => inRange f n l.val && heldByOther p (holder l)) = none := by
  refine List.find?_eq_none.2 fun l _ h => ?_
  obtain ⟨hin, ho⟩ := (Bool.and_eq_true _ _).mp h
  obtain h | h := hfree l (inRange_iff.1 hin) <;> simp [h, heldByOther] at ho

theorem all_held_iff (hall : ∀ l, l ∈ all) :
    all.all (fun l => !inRange f n l.val || decide (holder l = some p)) = true ↔
      ∀ l : Fin m, (f.toNat ≤ l.val ∧ l.val < f.toNat + n.toNat) → holder l = some p := by
  simp only [List.all_eq_true, Bool.or_eq_true, Bool.not_eq_true', decide_eq_true_eq, ← inRange_iff]
  refine ⟨fun h l hl => (h l (hall l)).resolve_left (by simp [hl]), fun h l _ => ?_⟩
  cases hl : inRange f n l.val with
  | true => exact .inr (h l hl)
  | false => exact .inl rfl

theorem any_held_iff (hall : ∀ l, l ∈ all) :
    all.any (fun l => inRange f n l.val && decide (holder l = some p)) = true ↔
      ∃ l : Fin m, (f.toNat ≤ l.val ∧ l.val < f.toNat + n.toNat) ∧ holder l = some p := by
  simp only [List.any_eq_true, Bool.and_eq_true, decide_eq_true_eq, ← inRange_iff]
  exact ⟨fun ⟨l, _, h⟩ => ⟨l, h⟩, fun ⟨l, h⟩ => ⟨l, hall l, h⟩⟩

/-- The table once the range is the port's (R143). -/
def claimTable (holder : Fin m → Option Port) (p : Port) (f n : Byte) : Vector (Option Port) m :=
  Vector.ofFn fun l => if inRange f n l.val then some p else holder l

theorem claimTable_inside {l : Fin m} (h : f.toNat ≤ l.val ∧ l.val < f.toNat + n.toNat) :
    (claimTable holder p f n)[l] = some p := by
  simp [claimTable, inRange_iff.2 h]

theorem claimTable_outside {l : Fin m} (h : ¬ (f.toNat ≤ l.val ∧ l.val < f.toNat + n.toNat)) :
    (claimTable holder p f n)[l] = holder l := by
  simp [claimTable, Bool.eq_false_of_not_eq_true (inRange_iff.not.2 h)]

/-- The table once the port has given up what it held of the range (R143). -/
def releaseTable (holder : Fin m → Option Port) (p : Port) (f n : Byte) : Vector (Option Port) m :=
  Vector.ofFn fun l => if inRange f n l.val ∧ holder l = some p then none else holder l

theorem releaseTable_given {l : Fin m} (h : f.toNat ≤ l.val ∧ l.val < f.toNat + n.toNat) (hp : holder l = some p) :
    (releaseTable holder p f n)[l] = none := by
  simp [releaseTable, inRange_iff.2 h, hp]

theorem releaseTable_kept {l : Fin m} (h : ¬ ((f.toNat ≤ l.val ∧ l.val < f.toNat + n.toNat) ∧ holder l = some p)) :
    (releaseTable holder p f n)[l] = holder l := by
  have h : ¬ (inRange f n l.val = true ∧ holder l = some p) := fun e => h ⟨inRange_iff.1 e.1, e.2⟩
  simp [releaseTable, h]

end Table

theorem lanesAll_pairwise : lanesAll.Pairwise (· < ·) := by decide

theorem fourAll_pairwise : fourAll.Pairwise (· < ·) := by decide

/-- The answer ALREADY or OK, by a condition. -/
theorem status_already_iff {c : Prop} {b : Bool} (h : b = true ↔ c) :
    ((if b then Status.already else .ok) = .already ∨ (if b then Status.already else .ok) = .ok)
      ∧ ((if b then Status.already else .ok) = .already ↔ c) := by
  cases b with
  | true => exact ⟨.inl rfl, iff_of_true rfl (h.1 rfl)⟩
  | false => exact ⟨.inr rfl, iff_of_false nofun fun hc => Bool.false_ne_true (h.2 hc)⟩

theorem status_ok_iff {c : Prop} {b : Bool} (h : b = true ↔ c) :
    ((if b then Status.ok else .already) = .already ∨ (if b then Status.ok else .already) = .ok)
      ∧ ((if b then Status.ok else .already) = .ok ↔ c) := by
  cases b with
  | true => exact ⟨.inr rfl, iff_of_true rfl (h.1 rfl)⟩
  | false => exact ⟨.inl rfl, iff_of_false nofun fun hc => Bool.false_ne_true (h.2 hc)⟩

/-! ### The four commands -/

theorem claimLanesBody_held {p q : Port} {f n : Byte} {s : State} {l : Fin 16} (hr : ¬ BadRange 16 f n)
    (hfind : lanesAll.find? (fun l => inRange f n l.val && heldByOther p (s.laneHolder l)) = some l)
    (hq : s.laneHolder l = some q) :
    claimLanesBody p f n s = (s, ⟨.held, [BitVec.ofNat 8 l.val, BitVec.ofNat 8 (q.idx.val + 1)]⟩) := by
  rw [claimLanesBody, if_pos (rangeOk_iff.2 hr), hfind]
  dsimp only
  rw [hq, byte_eq, byte_eq]
  rfl

theorem claimPlayerBody_held {p q : Port} {f n : Byte} {s : State} {j : Fin 4} (hr : ¬ BadRange 4 f n)
    (hfind : fourAll.find? (fun j => inRange f n j.val && heldByOther p (s.playerHolder j)) = some j)
    (hq : s.playerHolder j = some q) :
    claimPlayerBody p f n s = (s, ⟨.held, [BitVec.ofNat 8 j.val, BitVec.ofNat 8 (q.idx.val + 1)]⟩) := by
  rw [claimPlayerBody, if_pos (rangeOk_iff.2 hr), hfind]
  dsimp only
  rw [hq, byte_eq, byte_eq]
  rfl

/-- Settles O45: each command by its range, and a claim by the lowest entry that another port holds. -/
theorem claimsAreTakenWhole : Obligations.ClaimsAreTakenWhole := by
  unfold Obligations.ClaimsAreTakenWhole
  intro bad inside
  refine ⟨?_, ?_, ?_, ?_⟩
  · intro p f n s hcan i u
    have hexec : exec i s = answers p 0x50 (claimLanesBody p f n u).2.status (claimLanesBody p f n u).2.payload
        (claimLanesBody p f n u).1 := exec_taken rfl hcan
    have hheld : ∀ l, u.laneHolder l = s.laneHolder l := State.heard_laneHolder s p i
    refine ⟨fun h => ?_, fun l q hr hin hq hne hlow => ?_, fun hr hfree => ?_⟩
    · rw [hexec, claimLanesBody, if_neg fun e => rangeOk_iff.1 e h]
      rfl
    · have hfind := find?_heldByOther (holder := u.laneHolder) lanesAll_pairwise mem_lanesAll hin
        ((hheld l).trans hq) hne (by simpa only [hheld] using hlow)
      rw [hexec, claimLanesBody_held hr hfind ((hheld l).trans hq)]
    · have hfind := find?_heldByOther_none (holder := u.laneHolder) (all := lanesAll) (by simpa only [hheld] using hfree)
      have hstatus := status_already_iff (all_held_iff (holder := u.laneHolder) (p := p) (f := f) (n := n) mem_lanesAll)
      refine ⟨claimTable u.laneHolder p f n, ({ u with laneClaims := claimTable u.laneHolder p f n } : State).heldLanes p, _, ?_,
        hstatus.1, by simpa only [hheld] using hstatus.2, fun l => claimTable_inside,
        fun l hl => (claimTable_outside hl).trans (hheld l), fun l => State.heldLanes_getLsbD _ p l⟩
      rw [hexec, claimLanesBody, if_pos (rangeOk_iff.2 hr), hfind]
      rfl
  · intro p f n s hcan i u
    have hexec : exec i s = answers p 0x51 (releaseLanesBody p f n u).2.status (releaseLanesBody p f n u).2.payload
        (releaseLanesBody p f n u).1 := exec_taken rfl hcan
    have hheld : ∀ l, u.laneHolder l = s.laneHolder l := State.heard_laneHolder s p i
    refine ⟨fun h => ?_, fun hr => ?_⟩
    · rw [hexec, releaseLanesBody, if_neg fun e => rangeOk_iff.1 e h]
      rfl
    · have hstatus := status_ok_iff (any_held_iff (holder := u.laneHolder) (p := p) (f := f) (n := n) mem_lanesAll)
      refine ⟨releaseTable u.laneHolder p f n, ({ u with laneClaims := releaseTable u.laneHolder p f n } : State).heldLanes p,
        _, ?_, hstatus.1, by simpa only [hheld] using hstatus.2,
        fun l hl hp => releaseTable_given hl ((hheld l).trans hp),
        fun l hl => (releaseTable_kept (by rwa [hheld])).trans (hheld l), fun l => State.heldLanes_getLsbD _ p l⟩
      rw [hexec, releaseLanesBody, if_pos (rangeOk_iff.2 hr)]
      rfl
  · intro p f n s hcan i u
    have hexec : exec i s = answers p 0x52 (claimPlayerBody p f n u).2.status (claimPlayerBody p f n u).2.payload
        (claimPlayerBody p f n u).1 := exec_taken rfl hcan
    have hheld : ∀ j, u.playerHolder j = s.playerHolder j := State.heard_playerHolder s p i
    refine ⟨fun h => ?_, fun j q hr hin hq hne hlow => ?_, fun hr hfree => ?_⟩
    · rw [hexec, claimPlayerBody, if_neg fun e => rangeOk_iff.1 e h]
      rfl
    · have hfind := find?_heldByOther (holder := u.playerHolder) fourAll_pairwise mem_fourAll hin
        ((hheld j).trans hq) hne (by simpa only [hheld] using hlow)
      rw [hexec, claimPlayerBody_held hr hfind ((hheld j).trans hq)]
    · have hfind := find?_heldByOther_none (holder := u.playerHolder) (all := fourAll) (by simpa only [hheld] using hfree)
      have hstatus := status_already_iff (all_held_iff (holder := u.playerHolder) (p := p) (f := f) (n := n) mem_fourAll)
      refine ⟨claimTable u.playerHolder p f n, ({ u with playerClaims := claimTable u.playerHolder p f n } : State).heldPlayers p, _, ?_,
        hstatus.1, by simpa only [hheld] using hstatus.2, fun j => claimTable_inside,
        fun j hj => (claimTable_outside hj).trans (hheld j), fun j => State.heldPlayers_getLsbD _ p j⟩
      rw [hexec, claimPlayerBody, if_pos (rangeOk_iff.2 hr), hfind,
        ← byte_of_toNat (b := ({ u with playerClaims := claimTable u.playerHolder p f n } : State).heldPlayers p) rfl]
      rfl
  · intro p f n s hcan i u
    have hexec : exec i s = answers p 0x53 (releasePlayerBody p f n u).2.status (releasePlayerBody p f n u).2.payload
        (releasePlayerBody p f n u).1 := exec_taken rfl hcan
    have hheld : ∀ j, u.playerHolder j = s.playerHolder j := State.heard_playerHolder s p i
    refine ⟨fun h => ?_, fun hr => ?_⟩
    · rw [hexec, releasePlayerBody, if_neg fun e => rangeOk_iff.1 e h]
      rfl
    · have hstatus := status_ok_iff (any_held_iff (holder := u.playerHolder) (p := p) (f := f) (n := n) mem_fourAll)
      refine ⟨releaseTable u.playerHolder p f n, ({ u with playerClaims := releaseTable u.playerHolder p f n } : State).heldPlayers p,
        _, ?_, hstatus.1, by simpa only [hheld] using hstatus.2,
        fun j hj hp => releaseTable_given hj ((hheld j).trans hp),
        fun j hj => (releaseTable_kept (by rwa [hheld])).trans (hheld j), fun j => State.heldPlayers_getLsbD _ p j⟩
      rw [hexec, releasePlayerBody, if_pos (rangeOk_iff.2 hr), ← byte_of_toNat rfl]
      rfl

end Sys2Proof.Machine

/-! PROOF. MUTE, UNMUTE and READ_LANE (sections 8.3, 8.6), and the ends of pulses and runs (section 8.5). -/

namespace Sys2Proof.Machine

/-! ### The ends of pulses and runs -/

theorem Lane.noteLast_stays {d : Lane} (h : d.settings.mode ≠ .run ∨ d.runFlag = false) (now : Time) (r : PulseRecord) :
    d.noteLast now r = d :=
  if_neg fun ⟨hm, hf⟩ => h.elim (fun e => e hm) fun e => by simp [hf] at e

theorem Lane.noteLast_ends {d : Lane} {now : Time} {r : PulseRecord} (hm : d.settings.mode = .run) (hf : d.runFlag = true)
    (h : (shifted r.refTime (d.settings.offset + ((r.interval / 65536 : Nat) : Int))).toNat ≤ now.toNat) :
    d.noteLast now r = { d with runFlag := false, output := .inactive, runEnd := none } :=
  (if_pos ⟨hm, hf⟩).trans (if_pos h)

theorem Lane.noteLast_waits {d : Lane} {now : Time} {r : PulseRecord} (hm : d.settings.mode = .run)
    (hf : d.runFlag = true)
    (h : now.toNat < (shifted r.refTime (d.settings.offset + ((r.interval / 65536 : Nat) : Int))).toNat) :
    d.noteLast now r =
      { d with runEnd := some (shifted r.refTime (d.settings.offset + ((r.interval / 65536 : Nat) : Int))) } :=
  (if_pos ⟨hm, hf⟩).trans (if_neg (Nat.not_le.2 h))

/-- Settles O49, end by end. -/
theorem pulsesAndRunsEnd : Obligations.PulsesAndRunsEnd := by
  refine ⟨fun l s => ⟨fun h => ?_, fun t ht h => ?_, fun h => ?_, fun t ht h => ?_⟩, fun now r d =>
    ⟨fun h => Lane.noteLast_stays h now r, fun hm hf => ⟨Lane.noteLast_ends hm hf, Lane.noteLast_waits hm hf⟩⟩⟩
  · exact if_neg (by simp [State.due_eq_false h])
  · exact if_pos (State.due_eq_true ht h)
  · exact if_neg (by simp [State.due_eq_false h])
  · exact if_pos (State.due_eq_true ht h)

/-! ### MUTE, UNMUTE and READ_LANE -/

theorem readLaneNumber_of_lt {b : Byte} (h : 15 < b.toNat) : readLaneNumber b = none := dif_neg (by omega)

theorem readLaneNumber_of_val {b : Byte} {l : Fin 16} (h : b.toNat = l.val) : readLaneNumber b = some l :=
  (readLaneNumber_eq_some b l).2 h

theorem State.allMuted_iff (s : State) (lanes : BitVec 16) (m : Mute) :
    s.allMuted lanes m = true ↔ ∀ l : Fin 16, lanes.getLsbD l.val = true → (s.lane l).mute = m := by
  simp only [State.allMuted, List.all_eq_true, Bool.or_eq_true, Bool.not_eq_true', decide_eq_true_eq]
  refine ⟨fun h l hl => (h l (mem_lanesAll l)).resolve_left (by simp [hl]), fun h l _ => ?_⟩
  cases hl : lanes.getLsbD l.val with
  | true => exact .inr (h l hl)
  | false => exact .inl rfl

theorem State.setMutes_lane (s : State) (lanes : BitVec 16) (m : Mute) (l : Fin 16) :
    (s.setMutes lanes m).lane l = if lanes.getLsbD l.val = true then { s.lane l with mute := m } else s.lane l := by
  simp [State.setMutes, State.lane]

/-- A cursor in READ_LANE's reply: zeros where there is none (R161, log entry 7). -/
theorem cursor_bytes (c : Option Cursor) :
    (∀ k, c = some (.at k) → optionBytes 5 Cursor.bytes c = 0 :: toBytes 4 k.toNat)
      ∧ (c = some .next → optionBytes 5 Cursor.bytes c = [1, 0, 0, 0, 0])
      ∧ (c = none → optionBytes 5 Cursor.bytes c = [0, 0, 0, 0, 0]) := by
  refine ⟨fun k h => ?_, fun h => ?_, fun h => ?_⟩ <;> subst h
  · simp [optionBytes, Cursor.bytes, byte_eq]
  · simp [optionBytes, Cursor.bytes, byte_eq]
  · rfl

theorem byte_mute (m : Mute) : byte m.code = [if m = .muted then 0 else 1] := by
  cases m <;> simp [Mute.code, byte_eq]

theorem byte_output (o : Output) : byte o.code = [if o = .active then 0 else 1] := by
  cases o <;> simp [Output.code, byte_eq]

/-- Settles O47: the mute commands together, and then READ_LANE. -/
theorem lanesAreMutedAndRead : Obligations.LanesAreMutedAndRead := by
  refine ⟨?_, ?_⟩
  · intro p lanes m s i code hcan u holds
    have hexec : exec i s = answers p code (muteBody p lanes m u).2.status (muteBody p lanes m u).2.payload
        (muteBody p lanes m u).1 := by
      cases m with
      | muted => exact exec_taken rfl hcan
      | unmuted => exact exec_taken rfl hcan
    have hholds : u.holdsLanes p lanes = true ↔ holds := by
      rw [State.holdsLanes_iff]
      simp only [u, State.heard_laneHolder]
      rfl
    have hlane : ∀ l, u.lane l = s.lane l := State.heard_lane s p i
    refine ⟨fun h => ?_, fun h0 h => ?_, fun h0 h => ?_⟩
    · rw [hexec, muteBody, if_pos h]
      rfl
    · rw [hexec, muteBody, if_neg h0, if_neg (hholds.not.2 h)]
      rfl
    · have hstatus := status_already_iff (u.allMuted_iff lanes m)
      refine ⟨(u.setMutes lanes m).lanes, (u.setMutes lanes m).mutedLanes p, _, ?_, hstatus.1,
        by simpa only [hlane] using hstatus.2, fun l => ?_, fun l => ?_⟩
      · rw [hexec, muteBody, if_neg h0, if_pos (hholds.2 h)]
        rfl
      · rw [← hlane]
        exact u.setMutes_lane lanes m l
      · rw [State.mutedLanes_getLsbD, ← State.heard_laneHolder s p i]
        rfl
  · intro p n s hcan u
    have hexec : exec (.readLane p n) s = answers p 0x57 (readLaneBody n u).2.status (readLaneBody n u).2.payload
        (readLaneBody n u).1 := exec_taken rfl hcan
    refine ⟨fun h => ?_, fun l hl => ?_⟩
    · rw [hexec, readLaneBody, readLaneNumber_of_lt h]
      rfl
    · intro d
      obtain ⟨present, hpresent, hbits⟩ := presence_spec
        (bs := [d.cursor.isSome, d.pulseEnd.isSome, d.runEnd.isSome]) (by simp)
      refine ⟨present, optionBytes 5 Cursor.bytes d.cursor, ?_, hbits 0, hbits 1, hbits 2, cursor_bytes d.cursor⟩
      have hpulse := optionBytes_getD (w := 4) (fun t : Time => (t - s.houseTime).toNat) d.pulseEnd
      have hrun := optionBytes_getD (w := 8) (fun t : Time => t.toNat) d.runEnd
      have hlane : u.lane l = d := State.heard_lane s p _ l
      have htime : u.houseTime = s.houseTime := State.heard_houseTime s p _
      rw [hexec, readLaneBody, readLaneNumber_of_val hl]
      dsimp only
      rw [hlane, State.heard_laneHolder, hpresent, byte_mute, byte_output]
      unfold State.until timeBytes
      rw [htime, hpulse, hrun]
      rfl

end Sys2Proof.Machine

/-! PROOF. The processing of a record by a lane (sections 8.3 to 8.5). -/

namespace Sys2Proof.Machine

/-! ### The record that a lane's cursor names -/

section Named

variable {s : State} {l : Fin 16} {a b : List PulseRecord} {r : PulseRecord}

theorem recordAt_append (ha : ∀ x ∈ a, x.pulse ≠ r.pulse) : recordAt (a ++ r :: b) r.pulse = some r := by
  have hnone : a.find? (fun x => decide (x.pulse = r.pulse)) = none :=
    List.find?_eq_none.2 fun x hx => by simpa using ha x hx
  simp [recordAt, List.find?_append, hnone]

theorem recordsFrom_append (ha : ∀ x ∈ a, x.pulse ≠ r.pulse) : recordsFrom (a ++ r :: b) r.pulse = r :: b :=
  (takeWhile_append_of_forall (fun x : PulseRecord => decide (x.pulse ≠ r.pulse)) a (r :: b)
    (fun x hx => decide_eq_true (ha x hx)) fun x hx => by cases hx; simp).2

/-- A lane has no record to process before R + o of the one its cursor names, or with none in the queue (R153). -/
theorem State.laneRecord_eq_none (h : ∀ k, (s.lane l).cursor = some (.at k) → ∀ r ∈ s.queue, r.pulse = k →
      s.houseTime.toNat < (r.refTime + BitVec.ofInt 64 (s.lane l).settings.offset).toNat) : s.laneRecord l = none := by
  unfold State.laneRecord
  split
  · next k hk =>
    split
    · next r hr =>
      have hlt := h k hk r (List.mem_of_find?_eq_some hr) (by simpa using List.find?_some hr)
      exact if_neg (by simpa [State.reached, playTime, shifted] using hlt)
    · rfl
  · rfl

theorem State.laneRecord_eq_some (hq : s.queue = a ++ r :: b) (ha : ∀ x ∈ a, x.pulse ≠ r.pulse)
    (hc : (s.lane l).cursor = some (.at r.pulse))
    (ht : (r.refTime + BitVec.ofInt 64 (s.lane l).settings.offset).toNat ≤ s.houseTime.toNat) :
    s.laneRecord l = some r := by
  unfold State.laneRecord
  rw [hc]
  dsimp only
  rw [hq, recordAt_append ha]
  exact if_pos (decide_eq_true ht)

end Named

/-! ### What a lane meets in a record -/

section Meet

variable (i : Fin 16) (now : Time) (r : PulseRecord) (d : Lane)

/-- The run flag once the launch marker is met (R159). -/
def Lane.flagAt (d : Lane) (r : PulseRecord) : Bool :=
  d.runFlag || (decide (d.settings.mode = .run) && r.markers.launch)

/-- A lane with the record's lane change and launch marker taken (R151, R159). -/
def Lane.flagged (d : Lane) (i : Fin 16) (r : PulseRecord) : Lane :=
  { d with mute := (d.applyEntry i r).mute, runFlag := d.flagAt r }

theorem Lane.applyEntry_eq : d.applyEntry i r = { d with mute := (d.applyEntry i r).mute } := by
  unfold Lane.applyEntry
  split <;> rfl

theorem Lane.launchFlag_eq : d.launchFlag r = { d with runFlag := d.flagAt r } := by
  unfold Lane.launchFlag Lane.flagAt
  by_cases hm : d.settings.mode = .run <;> cases hl : r.markers.launch <;> simp [hm]

theorem Lane.meet_eq : d.meet i now r =
    if r.markers.last then (d.flagged i r).noteLast now r else d.flagged i r := by
  have hflag : (d.applyEntry i r).launchFlag r = d.flagged i r := by
    rw [Lane.launchFlag_eq, Lane.applyEntry_eq]
    rfl
  rw [Lane.meet, hflag]

theorem Lane.noteLast_frame : d.noteLast now r =
    { d with runFlag := (d.noteLast now r).runFlag, output := (d.noteLast now r).output
             runEnd := (d.noteLast now r).runEnd } := by
  unfold Lane.noteLast
  dsimp only
  split
  · split <;> rfl
  · rfl

/-- Meeting a record changes the mute state, the run flag, the output and the run end alone. -/
theorem Lane.meet_frame : d.meet i now r =
    { d with mute := (d.applyEntry i r).mute, runFlag := (d.meet i now r).runFlag
             output := (d.meet i now r).output, runEnd := (d.meet i now r).runEnd } := by
  rw [Lane.meet_eq]
  split
  · rw [Lane.noteLast_frame]
    rfl
  · rfl

theorem Lane.meet_of_not_run {d : Lane} (hm : d.settings.mode ≠ .run) :
    d.meet i now r = { d with mute := (d.applyEntry i r).mute } := by
  have hflag : d.flagged i r = { d with mute := (d.applyEntry i r).mute } := by
    simp [Lane.flagged, Lane.flagAt, hm]
  have hlast := Lane.noteLast_stays (d := d.flagged i r) (.inl hm) now r
  rw [Lane.meet_eq, hlast, ite_self, hflag]

theorem Lane.meet_of_not_last {r : PulseRecord} (hl : r.markers.last = false) : d.meet i now r = d.flagged i r := by
  rw [Lane.meet_eq, hl]
  rfl

theorem Lane.applyEntry_mute_of_none {r : PulseRecord} (h : ∀ c ∈ r.laneChanges, c.lane ≠ i) :
    (d.applyEntry i r).mute = d.mute := by
  have hnone : r.laneChanges.find? (fun c => decide (c.lane = i)) = none :=
    List.find?_eq_none.2 fun c hc => by simpa using h c hc
  simp [Lane.applyEntry, hnone]

theorem Lane.applyEntry_mute_of_entry {r : PulseRecord} {c : LaneChange}
    (h : r.laneChanges.filter (fun c => decide (c.lane = i)) = [c]) : (d.applyEntry i r).mute = c.value := by
  have hsome : r.laneChanges.find? (fun c => decide (c.lane = i)) = some c := by
    rw [← List.head?_filter, h]
    rfl
  simp [Lane.applyEntry, hsome]

end Meet

/-! ### Emission -/

section Emit

variable (now : Time) (n : Nat) (r : PulseRecord) (d : Lane)

/-- Emission changes the output and the pulse end alone (section 8.5). -/
theorem Lane.emit_frame : d.emit now n r =
    { d with output := (d.emit now n r).output, pulseEnd := (d.emit now n r).pulseEnd } := by
  unfold Lane.emit
  (repeat' split) <;> rfl

/-- A pulse is in progress until its own end or that of the one before it, whichever is later (R156). -/
def Lane.Pulses (d e : Lane) (t : Time) : Prop :=
  e.output = .active ∧ ∃ x, e.pulseEnd = some x ∧ (x = t ∨ d.pulseEnd = some x) ∧ t.toNat ≤ x.toNat
    ∧ ∀ y, d.pulseEnd = some y → y.toNat ≤ x.toNat

theorem Lane.beginPulse_pulses (w : Nat) : d.Pulses (d.beginPulse now w) (now + BitVec.ofNat 64 w) := by
  unfold Lane.beginPulse later
  refine ⟨rfl, _, rfl, ?_⟩
  cases hp : d.pulseEnd with
  | none => exact ⟨.inl rfl, le_refl _, nofun⟩
  | some y =>
    dsimp only
    split
    · next hle => exact ⟨.inr rfl, hle, fun z hz => by cases hz; exact le_refl _⟩
    · next hlt => exact ⟨.inl rfl, le_refl _, fun z hz => by cases hz; omega⟩

variable {now n r d}

theorem Lane.emit_clock (hm : d.settings.mode = .clock) (hu : d.mute = .unmuted)
    (hc : (d.settings.divisor : Int) ∣ d.clockIndex r - d.settings.phase) :
    d.emit now n r = d.beginPulse now (d.clockPulseWidth r) := by
  rw [Lane.emit, hm]
  exact if_pos ⟨hu, decide_eq_true (Int.emod_eq_zero_of_dvd hc)⟩

theorem Lane.emit_clock_stays (hm : d.settings.mode = .clock)
    (h : d.mute = .muted ∨ ¬ (d.settings.divisor : Int) ∣ d.clockIndex r - d.settings.phase) : d.emit now n r = d := by
  rw [Lane.emit, hm]
  refine if_neg fun ⟨hu, hc⟩ => ?_
  obtain h | h := h
  · rw [hu] at h
    cases h
  · exact h (Int.dvd_of_emod_eq_zero (of_decide_eq_true hc))

theorem Lane.emit_gate (hm : d.settings.mode = .gate) (hu : d.mute = .unmuted) (hl : d.gateLevel r ≠ 0) :
    d.emit now n r = d.beginPulse now (d.gatePulseWidth r n (d.gateLevel r)) := by
  rw [Lane.emit, hm]
  exact if_pos ⟨hu, hl⟩

theorem Lane.emit_gate_stays (hm : d.settings.mode = .gate) (h : d.gateLevel r = 0 ∨ d.mute = .muted) :
    d.emit now n r = d := by
  rw [Lane.emit, hm]
  refine if_neg fun ⟨hu, hl⟩ => ?_
  obtain h | h := h
  · exact hl h
  · rw [hu] at h
    cases h

theorem Lane.emit_off (hm : d.settings.mode = .off) : d.emit now n r = d := by
  rw [Lane.emit, hm]

theorem Lane.emit_run (hm : d.settings.mode = .run) : d.emit now n r =
    if d.runFlag then { d with output := if d.mute = .unmuted then .active else .inactive } else d := by
  rw [Lane.emit, hm]

theorem Lane.gateLevel_of_entry {x y : List StepEntry} {c : StepEntry} (hs : r.steps = x ++ c :: y)
    (hx : ∀ z ∈ x, z.player ≠ d.settings.srcPlayer) (hc : c.player = d.settings.srcPlayer) :
    d.gateLevel r = c.levels[d.settings.srcPlane] := by
  have hnone : x.find? (fun e => decide (e.player = d.settings.srcPlayer)) = none :=
    List.find?_eq_none.2 fun z hz => by simpa using hx z hz
  have hsome : r.steps.find? (fun e => decide (e.player = d.settings.srcPlayer)) = some c := by
    rw [hs, List.find?_append, hnone, List.find?_cons_of_pos (by simpa using hc)]
    rfl
  simp [Lane.gateLevel, hsome]

theorem Lane.gateLevel_eq_zero (h : ∀ c ∈ r.steps, c.player = d.settings.srcPlayer → c.levels[d.settings.srcPlane] = 0) :
    d.gateLevel r = 0 := by
  unfold Lane.gateLevel
  split
  · next e he => exact h e (List.mem_of_find?_eq_some he) (by simpa using List.find?_some he)
  · rfl

end Emit

/-! ### Processing -/

/-- A lane after it has processed a record, before its cursor moves (R153). -/
def Lane.processed (d : Lane) (i : Fin 16) (now : Time) (n : Nat) (r : PulseRecord) : Lane :=
  (d.meet i now r).emit now n r

section Processing

variable {s : State} {l : Fin 16} {a b : List PulseRecord} {r : PulseRecord}

theorem exec_laneProcessing (hq : s.queue = a ++ r :: b) (ha : ∀ x ∈ a, x.pulse ≠ r.pulse)
    (hc : (s.lane l).cursor = some (.at r.pulse))
    (ht : (r.refTime + BitVec.ofInt 64 (s.lane l).settings.offset).toNat ≤ s.houseTime.toNat) :
    exec (.laneProcessing l) s = .next (s.setLane l
      { (s.lane l).processed l s.houseTime (s.player (s.lane l).settings.srcPlayer).stepLength r with
        cursor := some (cursorOn b) }) := by
  change execLaneProcessing l s = _
  rw [execLaneProcessing, State.laneRecord_eq_some hq ha hc ht]
  dsimp only [State.process]
  rw [(Lane.meet_cursor_settings l s.houseTime r (s.lane l)).2, hq, recordsFrom_append ha]
  rfl

end Processing

section Processed

variable (d : Lane) (i : Fin 16) (now : Time) (n : Nat) (r : PulseRecord)

/-- Processing a record changes nothing of a lane's settings and launch reference, and of its mute state what the
record's lane change says. -/
theorem Lane.processed_frame : d.processed i now n r =
    { d with mute := (d.applyEntry i r).mute, runFlag := (d.meet i now r).runFlag, runEnd := (d.meet i now r).runEnd
             output := (d.processed i now n r).output, pulseEnd := (d.processed i now n r).pulseEnd } := by
  have hmeet := d.meet_frame i now r
  have hset : (d.meet i now r).settings = d.settings := by rw [hmeet]
  have hmute : (d.meet i now r).mute = (d.applyEntry i r).mute := by rw [hmeet]
  have hcursor : (d.meet i now r).cursor = d.cursor := by rw [hmeet]
  have hlaunch : (d.meet i now r).launchRef = d.launchRef := by rw [hmeet]
  refine (Lane.emit_frame now n r (d.meet i now r)).trans ?_
  rw [hset, hmute, hcursor, hlaunch]
  rfl

theorem Lane.processed_of_not_run {d : Lane} (hm : d.settings.mode ≠ .run) :
    d.processed i now n r = ({ d with mute := (d.applyEntry i r).mute } : Lane).emit now n r := by
  rw [Lane.processed, Lane.meet_of_not_run i now r hm]

theorem Lane.processed_mute : (d.processed i now n r).mute = (d.applyEntry i r).mute := by
  rw [Lane.processed_frame]

/-- A RUN lane's output at a record follows its run flag and its mute state, and its pulse end stands (R159). -/
theorem Lane.processed_run {d : Lane} (hm : d.settings.mode = .run) : d.processed i now n r =
    if (d.meet i now r).runFlag then
      { d.meet i now r with output := if (d.meet i now r).mute = .unmuted then .active else .inactive }
    else d.meet i now r := by
  have hset : (d.meet i now r).settings.mode = .run := by
    rw [Lane.meet_frame]
    exact hm
  exact Lane.emit_run hset

theorem Lane.processed_run_pulseEnd {d : Lane} (hm : d.settings.mode = .run) :
    (d.processed i now n r).pulseEnd = d.pulseEnd := by
  have hframe := d.meet_frame i now r
  have hpulse : (d.meet i now r).pulseEnd = d.pulseEnd := by rw [hframe]
  rw [Lane.processed_run i now n r hm]
  split <;> exact hpulse

theorem Lane.processed_run_flag {d : Lane} (hm : d.settings.mode = .run) :
    (d.processed i now n r).runFlag = (d.meet i now r).runFlag
      ∧ (d.processed i now n r).runEnd = (d.meet i now r).runEnd
      ∧ (d.processed i now n r).output = if (d.meet i now r).runFlag then
          if (d.applyEntry i r).mute = .unmuted then .active else .inactive
        else (d.meet i now r).output := by
  have hframe := d.meet_frame i now r
  have hmute : (d.meet i now r).mute = (d.applyEntry i r).mute := by rw [hframe]
  rw [Lane.processed_run i now n r hm, ← hmute]
  split <;> exact ⟨rfl, rfl, rfl⟩

end Processed

/-- Settles O48. -/
theorem laneProcessesTheRecordItNames : Obligations.LaneProcessesTheRecordItNames := by
  refine ⟨fun l s => ⟨fun h => ?_, fun a b r hq ha hc ht => ?_⟩, fun l a b r s hq ha => ?_⟩
  · change execLaneProcessing l s = _
    rw [execLaneProcessing, State.laneRecord_eq_none h]
  · have hframe := (s.lane l).processed_frame l s.houseTime (s.player (s.lane l).settings.srcPlayer).stepLength r
    refine ⟨_, exec_laneProcessing hq ha hc ht, ?_, ?_, ?_, fun h => ?_, fun c h => ?_, fun h => ?_, fun h => ?_⟩
    · rw [hframe]
    · rw [hframe]
    · cases b <;> rfl
    · rw [hframe]
      exact Lane.applyEntry_mute_of_none l _ h
    · rw [hframe]
      exact Lane.applyEntry_mute_of_entry l _ h
    · rw [hframe]
      dsimp only
      rw [Lane.meet_of_not_last l _ _ h]
      exact ⟨rfl, rfl⟩
    · rw [hframe]
      dsimp only
      rw [Lane.meet_of_not_run l _ _ (by rintro h'; simp [h'] at h)]
      exact ⟨rfl, rfl⟩
  · intro d g hc ht t pulses stays index len width
    refine ⟨_, exec_laneProcessing hq ha hc ht, fun hm => ?_, fun hm => ?_, fun hm => ?_, fun hm => ?_⟩
    · have hproc := Lane.processed_of_not_run l s.houseTime len r (d := d) (by rw [hm]; nofun)
      rw [hproc, Lane.emit_off (d := { d with mute := (d.applyEntry l r).mute }) hm]
      exact ⟨rfl, rfl⟩
    · have hproc := Lane.processed_of_not_run l s.houseTime len r (d := d) (by rw [hm]; nofun)
      have hmute : (d.processed l s.houseTime len r).mute = (d.applyEntry l r).mute := d.processed_mute l s.houseTime len r
      let d' : Lane := { d with mute := (d.applyEntry l r).mute }
      have hindex : (d'.clockIndex r : Int) = index := by
        simp only [Lane.clockIndex, index, d', g]
        cases d.settings.base <;> rfl
      refine ⟨fun hu hdvd => ?_, fun h => ?_⟩
      · rw [hproc, Lane.emit_clock (d := d') hm (hmute.symm.trans hu) (by rw [hindex]; exact hdvd)]
        exact d'.beginPulse_pulses s.houseTime _
      · rw [hproc, Lane.emit_clock_stays (d := d') hm (h.imp hmute.symm.trans fun h => by rw [hindex]; exact h)]
        exact ⟨rfl, rfl⟩
    · have hproc := Lane.processed_of_not_run l s.houseTime len r (d := d) (by rw [hm]; nofun)
      have hmute : (d.processed l s.houseTime len r).mute = (d.applyEntry l r).mute := d.processed_mute l s.houseTime len r
      let d' : Lane := { d with mute := (d.applyEntry l r).mute }
      refine ⟨fun x y c hs hx hc hu hl => ?_, fun h => ?_⟩
      · have hlevel : d'.gateLevel r = c.levels[g.srcPlane] := Lane.gateLevel_of_entry hs hx hc
        rw [hproc, Lane.emit_gate (d := d') hm (hmute.symm.trans hu) (by rw [hlevel]; exact hl), hlevel]
        exact d'.beginPulse_pulses s.houseTime _
      · rw [hproc, Lane.emit_gate_stays (d := d') hm (h.imp Lane.gateLevel_eq_zero hmute.symm.trans)]
        exact ⟨rfl, rfl⟩
    · have hmute : (d.processed l s.houseTime len r).mute = (d.applyEntry l r).mute := d.processed_mute l s.houseTime len r
      obtain ⟨hflag, hend, hout⟩ := Lane.processed_run_flag l s.houseTime len r (d := d) hm
      refine ⟨Lane.processed_run_pulseEnd l s.houseTime len r hm, fun hf hl => ?_, fun h => ?_⟩
      · have hnone : d.flagAt r = false := by simp [Lane.flagAt, hf, hl]
        have hmeet : d.meet l s.houseTime r = d.flagged l r := by
          rw [Lane.meet_eq, Lane.noteLast_stays (.inr hnone), ite_self]
        rw [hmeet] at hflag hend hout
        exact ⟨hout.trans (if_neg (by rw [Lane.flagged, hnone]; exact Bool.false_ne_true)), hflag.trans hnone, hend⟩
      · have hset : d.flagAt r = true := by
          have hrun : d.settings.mode = .run := hm
          obtain h | h := h <;> simp [Lane.flagAt, h, hrun]
        intro level runEnd
        have hlevel : level = if (d.applyEntry l r).mute = .unmuted then .active else .inactive := by
          rw [← hmute]
        refine ⟨fun hlast => ?_, fun hlast hlt => ?_, fun hlast hle => ?_⟩
        · rw [Lane.meet_of_not_last l _ _ hlast] at hflag hend hout
          exact ⟨(hout.trans (if_pos hset)).trans hlevel.symm, hflag.trans hset, hend⟩
        · rw [Lane.meet_eq, if_pos hlast, Lane.noteLast_waits (d := d.flagged l r) hm hset hlt] at hflag hend hout
          exact ⟨(hout.trans (if_pos hset)).trans hlevel.symm, hflag.trans hset, hend⟩
        · rw [Lane.meet_eq, if_pos hlast, Lane.noteLast_ends (d := d.flagged l r) hm hset hle] at hflag hend hout
          exact ⟨hout.trans (if_neg Bool.false_ne_true), hflag, hend⟩

end Sys2Proof.Machine

/-! PROOF. SET_LANE (sections 8.2 to 8.4). -/

namespace Sys2Proof.Machine

/-! ### The settings record that is read -/

theorem readLaneMode_eq_some {b : Byte} {m : LaneMode} : readLaneMode b = some m ↔ m.code = b.toNat := by
  unfold readLaneMode
  split <;> cases m <;> simp_all [LaneMode.code] <;> omega

theorem readCountBase_eq_some {b : Byte} {m : CountBase} : readCountBase b = some m ↔ m.code = b.toNat := by
  unfold readCountBase
  split <;> cases m <;> simp_all [CountBase.code] <;> omega

theorem readPolarity_eq_some {b : Byte} {m : Polarity} : readPolarity b = some m ↔ m.code = b.toNat := by
  unfold readPolarity
  split <;> cases m <;> simp_all [Polarity.code] <;> omega

theorem readPlane_eq_some {b : Byte} {q : Fin 8} : readPlane b = some q ↔ q.val = b.toNat := by
  unfold readPlane
  split
  · simp [Fin.ext_iff, eq_comm]
  · next h => simp only [reduceCtorEq, false_iff]; omega

/-- A settings record with the widths and the offset as they were sent (R147). -/
def LaneSettings.asSent (g : LaneSettings) (r : RawLaneSettings) : LaneSettings :=
  { g with
    clockWidth := r.clockWidth.toNat, soft := r.soft.toNat, normal := r.normal.toNat, accent := r.accent.toNat
    offset := r.offset.toInt }

/-- The fields of a settings record but its widths and offset are the ones sent, and in range (R147). -/
structure LaneSettings.Reads (g : LaneSettings) (r : RawLaneSettings) : Prop where
  mode : g.mode.code = r.mode.toNat
  base : g.base.code = r.base.toNat
  polarity : g.polarity.code = r.polarity.toNat
  player : g.srcPlayer.val = r.srcPlayer.toNat
  plane : g.srcPlane.val = r.srcPlane.toNat
  divisor : g.divisor = r.divisor.toNat
  phase : g.phase = r.phase.toNat
  low : 1 ≤ g.divisor
  high : g.divisor ≤ 384
  below : g.phase < g.divisor

theorem readLaneSettings_of_reads {g : LaneSettings} {r : RawLaneSettings} (h : g.Reads r) :
    readLaneSettings r = some (g.asSent r) := by
  obtain ⟨hm, hb, hp, hj, hq, hd, hf, hlo, hhi, hlt⟩ := h
  rw [readLaneSettings, readLaneMode_eq_some.2 hm, readCountBase_eq_some.2 hb, readPolarity_eq_some.2 hp,
    readFour_of_val hj.symm, readPlane_eq_some.2 hq]
  refine (if_pos (by omega)).trans ?_
  rw [← hd, ← hf]
  rfl

theorem reads_of_readLaneSettings {g : LaneSettings} {r : RawLaneSettings} (h : readLaneSettings r = some g) :
    g.Reads r := by
  simp only [readLaneSettings, Option.bind_eq_bind, Option.bind_eq_some_iff] at h
  obtain ⟨m, hm, b, hb, p, hp, j, hj, q, hq, h⟩ := h
  split at h
  · next hd =>
    cases h
    exact ⟨readLaneMode_eq_some.1 hm, readCountBase_eq_some.1 hb, readPolarity_eq_some.1 hp,
      ((readFour_eq_some _ _).1 hj).symm, readPlane_eq_some.1 hq, rfl, rfl, hd.1, hd.2.1, hd.2.2⟩
  · cases h

/-- A settings record with a field out of its range is not read (R147). -/
theorem readLaneSettings_eq_none {r : RawLaneSettings} (h : 3 < r.mode.toNat ∨ 1 < r.base.toNat ∨ 1 < r.polarity.toNat
      ∨ r.divisor.toNat < 1 ∨ 384 < r.divisor.toNat ∨ r.divisor.toNat ≤ r.phase.toNat ∨ 3 < r.srcPlayer.toNat
      ∨ 7 < r.srcPlane.toNat) : readLaneSettings r = none := by
  cases hg : readLaneSettings r with
  | none => rfl
  | some g =>
    obtain ⟨hm, hb, hp, hj, hq, hd, hf, hlo, hhi, hlt⟩ := reads_of_readLaneSettings hg
    have hmode : g.mode.code ≤ 3 := by cases g.mode <;> decide
    have hbase : g.base.code ≤ 1 := by cases g.base <;> decide
    have hpolarity : g.polarity.code ≤ 1 := by cases g.polarity <;> decide
    have hplayer := g.srcPlayer.isLt
    have hplane := g.srcPlane.isLt
    omega

/-- The widths and the offset of a record in its ranges are those sent, brought into range (R149). -/
structure LaneSettings.Clamps (g : LaneSettings) (r : RawLaneSettings) (horizon : Nat) : Prop where
  clockWidth : g.clockWidth = max 1 (min 100000 r.clockWidth.toNat)
  soft : g.soft = max 1 (min 100000 r.soft.toNat)
  normal : g.normal = max 1 (min 100000 r.normal.toNat)
  accent : g.accent = max 1 (min 100000 r.accent.toNat)
  offset : g.offset = max (-(horizon : Int)) (min 250000 r.offset.toInt)

theorem LaneSettings.clamped_asSent {g : LaneSettings} {r : RawLaneSettings} {horizon : Nat} (h : g.Clamps r horizon) :
    ((g.asSent r).clamped horizon).1 = g
      ∧ (((g.asSent r).clamped horizon).2 = false ↔ g.clockWidth = r.clockWidth.toNat ∧ g.soft = r.soft.toNat
        ∧ g.normal = r.normal.toNat ∧ g.accent = r.accent.toNat ∧ g.offset = r.offset.toInt) := by
  obtain ⟨hc, hs, hn, ha, ho⟩ := h
  have hwidth := fun w => (clampNat_spec (lo := 1) (hi := Config.widthMax) (v := w) (by decide)).2.2
  have hoff := (clampInt_spec (lo := -(horizon : Int)) (hi := (Config.offsetMax : Int)) (v := r.offset.toInt)
    (by simp only [Config.offsetMax]; omega)).2.2
  refine ⟨?_, ?_⟩
  · obtain ⟨_, _, _, _, _, _, _, _, _, _, _, _⟩ := g
    dsimp only at hc hs hn ha ho
    subst hc hs hn ha ho
    rfl
  · rw [hc, hs, hn, ha, ho]
    simp only [LaneSettings.clamped, LaneSettings.asSent, Bool.or_eq_false_iff, and_assoc, hwidth, hoff]
    rfl

theorem LaneSettings.sameLocked_iff (g h : LaneSettings) : g.sameLocked h = true ↔
    g.mode = h.mode ∧ g.divisor = h.divisor ∧ g.phase = h.phase ∧ g.base = h.base ∧ g.srcPlayer = h.srcPlayer
      ∧ g.srcPlane = h.srcPlane ∧ g.offset = h.offset ∧ g.polarity = h.polarity := by
  simp only [LaneSettings.sameLocked, Bool.and_eq_true, decide_eq_true_eq, and_assoc]

theorem State.laneLocked_iff (s : State) (l : Fin 16) : s.laneLocked l = true ↔
    s.transport.state ≠ .stopped ∧ (s.lane l).settings.mode ≠ .off ∧ (s.lane l).mute = .unmuted := by
  simp only [State.laneLocked, Bool.and_eq_true, decide_eq_true_eq, and_assoc]

/-! ### The lane that is configured -/

section Configure

variable {i : Fin 16} {now : Time} {q : List PulseRecord} {g : LaneSettings} {d : Lane}

/-- A lane that is not OFF with its new settings, before its cursor is seated (R155). -/
def Lane.withSettings (d : Lane) (g : LaneSettings) : Lane :=
  if d.settings.mode = .run ∧ g.mode ≠ .run then
    { d with
      settings := g, runFlag := false, runEnd := none
      output := if d.pulseEnd.isSome then d.output else .inactive }
  else if d.settings.mode ≠ .run ∧ g.mode = .run then { d with settings := g, runFlag := false, runEnd := none }
  else { d with settings := g }

theorem Lane.configure_off (hg : g.mode = .off) : d.configure i now q g =
    if d.settings.mode = .off then { d with settings := g }
    else { d with settings := g, cursor := none, pulseEnd := none, output := .inactive, runFlag := false, runEnd := none } :=
  if_pos hg

theorem Lane.configure_on (hg : g.mode ≠ .off) : d.configure i now q g =
    if d.settings.mode = .off ∨ d.settings.offset ≠ g.offset then (d.withSettings g).seat i now q
    else d.withSettings g :=
  if_neg hg

theorem Lane.withSettings_keeps (d : Lane) (g : LaneSettings) :
    (d.withSettings g).settings = g ∧ (d.withSettings g).cursor = d.cursor ∧ (d.withSettings g).mute = d.mute
      ∧ (d.withSettings g).launchRef = d.launchRef := by
  unfold Lane.withSettings
  split
  · exact ⟨rfl, rfl, rfl, rfl⟩
  · split <;> exact ⟨rfl, rfl, rfl, rfl⟩

theorem Lane.withSettings_of_mode (h : g.mode = d.settings.mode) : d.withSettings g = { d with settings := g } := by
  unfold Lane.withSettings
  rw [if_neg fun e => e.2 (h.trans e.1), if_neg fun e => e.1 (h.symm.trans e.2)]

theorem Lane.withSettings_of_off (h : d.settings.mode = .off) : (d.withSettings g).output = d.output
    ∧ (g.mode = .run → (d.withSettings g).runFlag = false) := by
  unfold Lane.withSettings
  rw [if_neg (by simp [h])]
  split
  · exact ⟨rfl, fun _ => rfl⟩
  · next hne => exact ⟨rfl, fun hg => absurd ⟨by simp [h], hg⟩ hne⟩

theorem Lane.seat_launchRef (i : Fin 16) (now : Time) (q : List PulseRecord) (d : Lane) :
    (d.seat i now q).launchRef = d.launchRef := by
  have hfold : ∀ (rs : List PulseRecord) (d : Lane), (rs.foldl (fun l r => l.meet i now r) d).launchRef = d.launchRef := by
    intro rs
    induction rs with
    | nil => exact fun _ => rfl
    | cons r rs ih =>
      intro d
      rw [List.foldl_cons, ih, Lane.meet_frame]
  unfold Lane.seat
  dsimp only
  split
  · rfl
  · rfl
  · split
    · rfl
    · exact hfold _ _

theorem Lane.configure_settings (d : Lane) (i : Fin 16) (now : Time) (q : List PulseRecord) (g : LaneSettings) :
    (d.configure i now q g).settings = g ∧ (d.configure i now q g).launchRef = d.launchRef := by
  obtain ⟨hset, -, -, href⟩ := d.withSettings_keeps g
  by_cases hg : g.mode = .off
  · rw [Lane.configure_off hg]
    split <;> exact ⟨rfl, rfl⟩
  · rw [Lane.configure_on hg]
    split
    · exact ⟨(Lane.seat_settings i now q _).trans hset, (Lane.seat_launchRef i now q _).trans href⟩
    · exact ⟨hset, href⟩

/-- Where a lane that comes from OFF is seated: after the records whose time has come, and in RUN mode after the
launch record (R152, log entry 30). -/
theorem Lane.seat_of_none (hc : d.cursor = none) : ∃ a b, q = a ++ b
    ∧ d.seat i now q = { d with cursor := some (cursorOn b) }
    ∧ (∀ x ∈ a, (x.refTime + BitVec.ofInt 64 d.settings.offset).toNat ≤ now.toNat
      ∨ (d.settings.mode = .run ∧ x.markers.launch = true))
    ∧ ∀ x, b.head? = some x → now.toNat < (x.refTime + BitVec.ofInt 64 d.settings.offset).toNat
      ∧ ¬ (d.settings.mode = .run ∧ x.markers.launch = true) := by
  have hbeyond : ∀ x : PulseRecord, d.seatsBeyond now x = true ↔
      (x.refTime + BitVec.ofInt 64 d.settings.offset).toNat ≤ now.toNat
        ∨ (d.settings.mode = .run ∧ x.markers.launch = true) := fun x => by
    simp only [Lane.seatsBeyond, Bool.or_eq_true, Bool.and_eq_true, decide_eq_true_eq]
    rfl
  refine ⟨q.takeWhile (d.seatsBeyond now), q.dropWhile (d.seatsBeyond now), List.takeWhile_append_dropWhile.symm, ?_,
    fun x hx => (hbeyond x).1 (List.mem_takeWhile_imp hx), fun x hx => ?_⟩
  · rw [Lane.seat, hc]
  · have hnot := List.head?_dropWhile_not (d.seatsBeyond now) q
    rw [hx] at hnot
    have hstop := (hbeyond x).not.1 (Bool.eq_false_iff.1 hnot)
    obtain ⟨ht, hl⟩ := not_or.1 hstop
    exact ⟨Nat.lt_of_not_le ht, hl⟩

end Configure

end Sys2Proof.Machine

/-! PROOF. SET_LANE settled: its refusals, and the lane it leaves. -/

namespace Sys2Proof.Machine

section Body

variable {p : Port} {n : Byte} {r : RawLaneSettings} {s : State} {l : Fin 16}

theorem setLaneBody_notHeld (hn : n.toNat = l.val) (h : s.laneHolder l ≠ some p) :
    setLaneBody p n r s = refusal s .notHeld := by
  rw [setLaneBody, readLaneNumber_of_val hn]
  exact if_neg h

theorem setLaneBody_range (hn : n.toNat = l.val) (h : s.laneHolder l = some p) (hr : readLaneSettings r = none) :
    setLaneBody p n r s = refusal s .range := by
  rw [setLaneBody, readLaneNumber_of_val hn, hr]
  exact if_pos h

theorem setLaneBody_locked {g : LaneSettings} (hn : n.toNat = l.val) (h : s.laneHolder l = some p)
    (hr : readLaneSettings r = some g) (hl : s.laneLocked l = true) (hs : g.sameLocked (s.lane l).settings ≠ true) :
    setLaneBody p n r s = refusal s .locked := by
  have hs : g.sameLocked (s.lane l).settings = false := Bool.eq_false_of_not_eq_true hs
  rw [setLaneBody, readLaneNumber_of_val hn, hr]
  exact (if_pos h).trans (if_pos (by rw [hl, hs]; rfl))

theorem setLaneBody_taken {g : LaneSettings} (hn : n.toNat = l.val) (h : s.laneHolder l = some p)
    (hr : readLaneSettings r = some g)
    (hl : s.laneLocked l ≠ true ∨ g.sameLocked (s.lane l).settings = true) :
    setLaneBody p n r s =
      (s.setLane l ((s.lane l).configure l s.houseTime s.queue (g.clamped s.horizonUs).1),
        ⟨takenStatus (g.clamped s.horizonUs).2, (g.clamped s.horizonUs).1.bytes⟩) := by
  rw [setLaneBody, readLaneNumber_of_val hn, hr]
  refine (if_pos h).trans (if_neg ?_)
  obtain hl | hs := hl
  · simp [Bool.eq_false_of_not_eq_true hl]
  · simp [hs]

end Body

theorem takenStatus_cases (b : Bool) : (takenStatus b = .ok ∨ takenStatus b = .clamped) ∧ (takenStatus b = .ok ↔ b = false) := by
  cases b <;> simp [takenStatus]

section Configured

variable {i : Fin 16} {now : Time} {q : List PulseRecord} {g : LaneSettings} {d : Lane}

/-- A change that leaves mode and offset as they are changes the record alone (R147). -/
theorem Lane.configure_of_same (hm : g.mode = d.settings.mode) (ho : g.offset = d.settings.offset ∨ g.mode = .off) :
    d.configure i now q g = { d with settings := g } := by
  by_cases hg : g.mode = .off
  · rw [Lane.configure_off hg, if_pos (hm.symm.trans hg)]
  · have ho : g.offset = d.settings.offset := ho.resolve_right hg
    rw [Lane.configure_on hg, if_neg (by rw [← hm, ho]; simp [hg]), Lane.withSettings_of_mode hm]

/-- A lane that leaves RUN with its offset as it was loses its run and keeps its cursor, and its output while a pulse
is in progress (R155, log entry 19). -/
theorem Lane.configure_leaves_run (hrun : d.settings.mode = .run) (hg : g.mode ≠ .run)
    (ho : g.offset = d.settings.offset) :
    (d.configure i now q g).runFlag = false ∧ (d.configure i now q g).runEnd = none
      ∧ (g.mode ≠ .off → (d.configure i now q g).cursor = d.cursor)
      ∧ (d.configure i now q g).output =
        if d.pulseEnd.isSome = true ∧ g.mode ≠ .off then d.output else .inactive := by
  by_cases hoff : g.mode = .off
  · rw [Lane.configure_off hoff, if_neg (by simp [hrun])]
    exact ⟨rfl, rfl, fun h => absurd hoff h, by simp [hoff]⟩
  · rw [Lane.configure_on hoff, if_neg (by simp [hrun, ho]), Lane.withSettings, if_pos ⟨hrun, hg⟩]
    refine ⟨rfl, rfl, fun _ => rfl, ?_⟩
    dsimp only
    cases d.pulseEnd <;> simp [hoff]

end Configured

/-- Settles O46: the refusals, and then the lane that `Lane.configure` leaves, mode by mode. -/
theorem setLaneReplacesTheRecord : Obligations.SetLaneReplacesTheRecord := by
  intro p n r s hcan i u
  have hexec : exec i s = answers p 0x54 (setLaneBody p n r u).2.status (setLaneBody p n r u).2.payload
      (setLaneBody p n r u).1 := exec_taken rfl hcan
  refine ⟨fun h => ?_, fun l hl => ?_⟩
  · rw [hexec, setLaneBody, readLaneNumber_of_lt h]
    rfl
  · intro old
    have hold : u.lane l = old := State.heard_lane s p i l
    refine ⟨fun h => ?_, fun h => ⟨fun hbad => ?_, ?_⟩⟩
    · rw [hexec, setLaneBody_notHeld hl (by simpa [u] using h)]
      rfl
    · rw [hexec, setLaneBody_range hl (by simpa [u] using h) (readLaneSettings_eq_none hbad)]
      rfl
    · intro g hm hb hp hd hf hlo hhi hlt hj hq hc hsoft hnorm hacc hoff h' same locked exact
      have hheld : u.laneHolder l = some p := by simpa [u] using h
      have hread : readLaneSettings r = some (g.asSent r) :=
        readLaneSettings_of_reads ⟨hm, hb, hp, hj, hq, hd, hf, hlo, hhi, hlt⟩
      have hqueue : u.queue = s.queue := State.heard_queue s p i
      have htime : u.houseTime = s.houseTime := State.heard_houseTime s p i
      have htrans : u.transport = s.transport := State.heard_transport s p i
      have hhorizon : u.horizonUs = s.horizonUs := by rw [State.horizonUs, htrans, State.horizonUs]
      obtain ⟨hclamp, hexact⟩ := LaneSettings.clamped_asSent ⟨hc, hsoft, hnorm, hacc, hoff⟩
      have hlocked : u.laneLocked l = true ↔ locked := by
        rw [State.laneLocked_iff, htrans, hold]
      have hsame : (g.asSent r).sameLocked (u.lane l).settings = true ↔ same := by
        rw [LaneSettings.sameLocked_iff, hold]
        rfl
      refine ⟨fun hlk hs => ?_, fun hok => ?_⟩
      · rw [hexec, setLaneBody_locked hl hheld hread (hlocked.2 hlk) (hsame.not.2 hs)]
        rfl
      · obtain ⟨hset, href⟩ := old.configure_settings l s.houseTime s.queue g
        obtain ⟨hstatus, hst⟩ := takenStatus_cases ((g.asSent r).clamped s.horizonUs).2
        refine ⟨old.configure l s.houseTime s.queue g, takenStatus ((g.asSent r).clamped s.horizonUs).2, ?_, hstatus,
          hst.trans hexact, hset, href, fun hg hh => ?_, fun hmode ho => Lane.configure_of_same hmode ho, fun hg => ?_,
          fun hrun hg ho => Lane.configure_leaves_run hrun hg ho, fun hg hh hcur => ?_⟩
        · rw [hexec, setLaneBody_taken hl hheld hread (hok.imp hlocked.not.2 hsame.2), hhorizon, hclamp, hold, hqueue,
            htime]
        · exact (Lane.configure_off hg).trans (if_neg hh)
        · intro base
          refine ⟨fun hh ho => ?_, fun ho => ?_⟩
          · rw [Lane.configure_on hg, if_neg (not_or.2 ⟨hh, not_not.2 ho.symm⟩)]
            rfl
          · rw [Lane.configure_on hg, if_pos (ho.imp_right Ne.symm)]
            exact Lane.seat_reseats l s.houseTime s.queue _
        · obtain ⟨hwset, hwcur, hwmute, -⟩ := old.withSettings_keeps g
          obtain ⟨hout, hflag⟩ := Lane.withSettings_of_off (g := g) hh
          obtain ⟨a, b, hsplit, hseat, ha, hbs⟩ := Lane.seat_of_none (i := l) (now := s.houseTime) (q := s.queue)
            (hwcur.trans hcur)
          rw [hwset] at ha hbs
          rw [Lane.configure_on hg, if_pos (.inl hh), hseat]
          refine ⟨a, b, hsplit, ha, fun x hx => ⟨?_, hbs x hx⟩, fun hx => ?_, hflag, hwmute, hout⟩
          · cases b with
            | nil => cases hx
            | cons y b => cases hx; rfl
          · subst hx
            rfl

end Sys2Proof.Machine

/-! PROOF. The frames of the commands (sections 9.2, 9.6). -/

namespace Sys2Proof

/-! ### Fields of a payload -/

theorem ofBytes_cons (x : Byte) (bs : List Byte) : ofBytes (x :: bs) = x.toNat * 256 ^ bs.length + ofBytes bs := by
  have hfold : ∀ (bs : List Byte) (acc : Nat),
      bs.foldl (fun acc b => acc * 256 + b.toNat) acc = acc * 256 ^ bs.length + ofBytes bs := by
    intro bs
    induction bs with
    | nil => simp [ofBytes]
    | cons b bs ih =>
      intro acc
      have hcons : ofBytes (b :: bs) = (0 * 256 + b.toNat) * 256 ^ bs.length + ofBytes bs := ih _
      rw [List.foldl_cons, ih, hcons, List.length_cons, pow_succ]
      ring
  rw [ofBytes, List.foldl_cons, hfold]
  simp

/-- The bytes of a number stand for its low bytes (R174). -/
theorem ofBytes_toBytes (n v : Nat) : ofBytes (toBytes n v) = v % 256 ^ n := by
  induction n with
  | zero => simp [toBytes, ofBytes, Nat.mod_one]
  | succ n ih =>
    have hsplit : v % 256 ^ (n + 1) = v % 256 ^ n + 256 ^ n * (v / 256 ^ n % 256) := by rw [pow_succ, Nat.mod_mul]
    rw [toBytes, ofBytes_cons, ih, Machine.length_toBytes, BitVec.toNat_ofNat, hsplit, Nat.mul_comm, Nat.add_comm]

@[simp] theorem field_cons_zero (x : Byte) (bs : List Byte) : field (x :: bs) 0 1 = x.toNat := by
  simp [field, ofBytes]

@[simp] theorem field_cons_succ (x : Byte) (bs : List Byte) (off n : Nat) : field (x :: bs) (off + 1) n = field bs off n := rfl

@[simp] theorem field_append_left {a b : List Byte} {off n : Nat} (h : off + n ≤ a.length) :
    field (a ++ b) off n = field a off n := by
  rw [field, List.drop_append_of_le_length (by omega), List.take_append_of_le_length (by simp; omega), field]

@[simp] theorem field_append_right {a b : List Byte} {off n : Nat} (h : a.length ≤ off) :
    field (a ++ b) off n = field b (off - a.length) n := by
  rw [field, List.drop_append, List.drop_eq_nil_of_le h, List.nil_append, field]

/-- A number that fills its bytes is read back (R174). -/
theorem ofNat_ofBytes_toBytes {w n : Nat} (h : w = 8 * n) (v : BitVec w) :
    BitVec.ofNat w (ofBytes (toBytes n v.toNat)) = v := by
  subst h
  have hlt : v.toNat < 256 ^ n := by
    have := v.isLt
    rwa [pow_mul] at this
  rw [ofBytes_toBytes, Nat.mod_eq_of_lt hlt, BitVec.ofNat_toNat, BitVec.setWidth_eq]

@[simp] theorem ofNat_field_toBytes {w n : Nat} (h : w = 8 * n) (v : BitVec w) :
    BitVec.ofNat w (field (toBytes n v.toNat) 0 n) = v := by
  rw [field, List.drop_zero, List.take_of_length_le (Machine.length_toBytes n _).le, ofNat_ofBytes_toBytes h]

/-- The levels of WRITE_STEPS are read back, two bytes each (R174). -/
theorem stepLevels_flatMap (ls : List (BitVec 16)) : stepLevels (ls.flatMap fun l => toBytes 2 l.toNat) = ls := by
  induction ls with
  | nil => rfl
  | cons l ls ih =>
    have hword : BitVec.ofNat 16 (ofBytes (toBytes 2 l.toNat)) = l := ofNat_ofBytes_toBytes (n := 2) rfl l
    change BitVec.ofNat 16 (ofBytes (toBytes 2 l.toNat)) :: stepLevels (ls.flatMap fun l => toBytes 2 l.toNat) = _
    rw [hword, ih]

theorem rawLaneSettings_bytes (x : Byte) (r : RawLaneSettings) : rawLaneSettings (x :: laneSettingsBytes r) 1 = r := by
  simp [rawLaneSettings, laneSettingsBytes, field8, field16, field32]

theorem rawCue_bytes (c : RawCue) : rawCue (rawCueBytes c) = c := by
  simp [rawCue, rawCueBytes, field8, field16, field48]

/-! ### Commands -/

/-- A command's code and payload spell it (section 9.6). -/
theorem spellCommand_commandPayload {i : Instr} {p : Port} {c : Byte} {b : List Byte} (hp : i.port? = some p)
    (h : commandPayload i = some (c, b)) (other : Instr) : spellCommand p c b other = i := by
  cases i with
  | openPort | closePort | readProfile | readIdentity | gridReset | readPosition | yieldLead | refuse | withdraw
  | release | keep | readLeadership | maskReset | readNotices =>
    cases hp
    cases h
    rfl
  | setMeter | stop | setHorizon | handToTap | tapClear | readTap | setAllocation | readCues | loadMask | readLane
  | setProfile | readSteps | blockFill | rowFill | loadRow | halfLoad | setStepLength | readPlayer | claimLanes
  | releaseLanes | claimPlayer | releasePlayer =>
    cases hp
    cases h
    simp [spellCommand, field8]
  | nudge | start | loadFill | mute | unmute =>
    cases hp
    cases h
    simp [spellCommand, field16, field32, field64]
  | setTempo | locate | cancelCue | setNotices | setTap | bid =>
    cases hp
    cases h
    simp [spellCommand, field8, field16, field32, field64]
  | writeSteps q row first count planes levels =>
    cases hp
    cases h
    have hlevels := stepLevels_flatMap levels
    simp [spellCommand, field8, hlevels]
  | scheduleCue q cue =>
    cases hp
    cases h
    exact congrArg (Instr.scheduleCue p) (rawCue_bytes cue)
  | setLane q lane r =>
    cases hp
    cases h
    have hlane : field8 (lane :: laneSettingsBytes r) 0 = lane := by simp [field8]
    exact congrArg₂ (Instr.setLane p) hlane (rawLaneSettings_bytes lane r)
  | _ => cases h

/-- A command's payload has the length its code calls for, and one that a byte declares (R167, R174). -/
theorem commandPayload_length {i : Instr} {c : Byte} {b : List Byte} (hw : i.wellFormed = true)
    (h : commandPayload i = some (c, b)) : ∃ n, commandLength c = some n ∧ n ≤ b.length ∧ b.length < 256 := by
  cases i with
  | commandFrame | fetchFrame | emptyFrame | unknownCommand | reset | resetRelease | patternClearEnd | waitTimerExpiry
  | silenceTimerExpiry | tapEdge | tapSilenceDeadline | launchStep | generatorStep | recordSounds | recordRetires
  | drainingEnd | laneProcessing | pulseEnd | runEnd => cases h
  | writeSteps q row first count planes levels =>
    have hle : levels.length ≤ 125 := of_decide_eq_true hw
    have hlen : (levels.flatMap fun l => toBytes 2 l.toNat).length = 2 * levels.length := by
      simp [List.length_flatMap, Nat.mul_comm]
    cases h
    exact ⟨4, rfl, by simp, by simp only [List.length_append, hlen, List.length_cons, List.length_nil]; omega⟩
  | scheduleCue q cue =>
    cases h
    exact ⟨16, rfl, by simp [rawCueBytes], by simp [rawCueBytes]⟩
  | setLane q lane r =>
    cases h
    exact ⟨30, rfl, by simp [laneSettingsBytes], by simp [laneSettingsBytes]⟩
  | _ =>
    cases h
    exact ⟨_, rfl, by simp, by simp⟩

/-- A frame with a payload of the length it declares, long enough for its code, is what they spell (R167). -/
theorem decodeFrame_of_length {p : Port} {c : Byte} {b : List Byte} {n : Nat} (hc : commandLength c = some n)
    (hn : n ≤ b.length) (hlt : b.length < 256) : decodeFrame p c (BitVec.ofNat 8 b.length :: b) =
      spellCommand p c b (.unknownCommand p c (BitVec.ofNat 8 b.length :: b)) := by
  have hlen : (BitVec.ofNat 8 b.length).toNat = b.length := by
    rw [BitVec.toNat_ofNat]
    exact Nat.mod_eq_of_lt hlt
  rw [decodeFrame, hlen, if_neg (Nat.lt_irrefl _), hc]
  refine (if_neg (by omega)).trans ?_
  rw [List.take_length]

theorem frameBytes_of_payload {i : Instr} {c : Byte} {b : List Byte} (h : commandPayload i = some (c, b)) :
    frameBytes i = c :: BitVec.ofNat 8 b.length :: b := by
  unfold frameBytes
  split
  · cases h
  · rw [h]

/-- Settles O51, by the frame that carries a command. -/
theorem commandFramesRoundTrip : Obligations.CommandFramesRoundTrip := by
  intro i p code rest hw hp hf
  cases hb : commandPayload i with
  | none =>
    cases i with
    | unknownCommand q c bs =>
      cases hp
      cases hf
      simp only [Instr.wellFormed, Bool.and_eq_true, decide_eq_true_eq] at hw
      exact hw.2
    | _ => simp [frameBytes, hb] at hf
  | some d =>
    obtain ⟨c, b⟩ := d
    obtain ⟨n, hc, hn, hlt⟩ := commandPayload_length hw hb
    rw [frameBytes_of_payload hb] at hf
    cases hf
    rw [decodeFrame_of_length hc hn hlt, spellCommand_commandPayload hp hb]

end Sys2Proof
